-- ==== Sys2Proof/Word.lean ====
section
/-! DEFINITION. The word types of the UX416: bytes, 16-bit words (tags, digests, epoch numbers) and 32-bit words (serials). -/

namespace Sys2Proof

/-- A byte of a record that crosses the tap, the bus or the service link. -/
abbrev Byte := BitVec 8

/-- A 16-bit word: a tag, a digest, a mask, an epoch number, a millisecond count. -/
abbrev Half := BitVec 16

/-- A 32-bit word: a serial number. -/
abbrev Word := BitVec 32

end Sys2Proof
end

