-- ==== Sys2Proof/Syntax.lean ====
section
/-! DEFINITION. The commands of the UX416, one constructor of Instr for each row of spec/opcode_table.json, and their operands. -/

namespace Sys2Proof

/-- The role of a board (Table 0-4). -/
inductive Role where
  | front | auth | posting | gateway
  deriving DecidableEq, Repr

/-- The kind of an accusation: MISS or CORRUPT (R15, R16). -/
inductive AccKind where
  | miss | corrupt
  deriving DecidableEq, Repr

/-- A well-formed ENROL note as received or composed (R113, Table 11-4). Its serial tag is the low half of the serial (R109). -/
structure EnrolNote where
  sender : BitVec 5
  seq : Byte
  serial : Word
  role : Role
  digest : Half
  deriving DecidableEq, Repr

/-- A well-formed BEACON note (R114, Table 11-5). -/
structure BeaconNote where
  sender : BitVec 5
  seq : Byte
  serial : Word
  role : Role
  digest : Half
  quarantined : Bool
  saturated : Bool
  condemned : List Byte
  deriving DecidableEq, Repr

/-- A well-formed ACCUSE note (R115, Table 11-6). -/
structure AccuseNote where
  sender : BitVec 5
  serialTag : Half
  seq : Byte
  accused : Byte
  kind : AccKind
  tags : List Half
  surplus : Byte
  deriving DecidableEq, Repr

/-- A well-formed REBUT note (R116, Table 11-7). -/
structure RebutNote where
  sender : BitVec 5
  serialTag : Half
  seq : Byte
  accuser : Byte
  tag : Half
  kind : AccKind
  deriving DecidableEq, Repr

/-- How a reception ends before its note's expected end (R108): the line goes idle (incomplete note), or a byte's stop bit is dominant
(framing error). -/
inductive ReceptionEnd where
  | lineIdle | dominantStop
  deriving DecidableEq, Repr

/-- A reception of the bus receiver (R108): the bytes framed with good stop bits, and how it ended where they do not reach the note's
end. -/
structure Reception where
  bytes : List Byte
  ending : ReceptionEnd
  deriving DecidableEq, Repr

/-- A note of any kind (Table 6-3). -/
inductive Note where
  | enrol (note : EnrolNote)
  | beacon (note : BeaconNote)
  | accuse (note : AccuseNote)
  | rebut (note : RebutNote)
  deriving DecidableEq, Repr

/-- The commands of the block: the steps that spec/opcode_table.json lists, each whole and indivisible. -/
inductive Instr where
  /-- POWER_ON_RESET (R156). -/
  | powerOnReset
  /-- RESET_N_LOW (R156). -/
  | resetNLow
  /-- LEAVE_RESET (R143): the levels of the five slot strap pins and the two role strap pins. -/
  | leaveReset (slotStrap : BitVec 5) (roleStrap : BitVec 2)
  /-- TAP_RECORD (R1): the bytes clocked in by the end of the frame, six or more. -/
  | tapRecord (bytes : List Byte)
  /-- TAP_RECORD_INCOMPLETE (R1): the bytes of a frame that ended before its sixth byte. -/
  | tapRecordIncomplete (bytes : List Byte)
  /-- TAKE_TAP_RECORD (R5). -/
  | takeTapRecord
  /-- MS_TICK (R150). -/
  | msTick
  /-- CLASS_TICK (R14) of one traffic class. -/
  | classTick (cls : Fin 4)
  /-- OET_ENTRY_EXPIRY (R15): of the oldest entry whose age has reached 4. -/
  | oetEntryExpiry
  /-- EPOCH_BOUNDARY (R150). -/
  | epochBoundary
  /-- EVIDENCE_BOUNDARY_WORK (R47). -/
  | evidenceBoundaryWork
  /-- WITNESS_EXPIRY (R44): of one witness in the record of one accused slot. -/
  | witnessExpiry (accused witness : Nat)
  /-- PENDING_ENTRY_DUE (R32): of the oldest due entry. -/
  | pendingEntryDue
  /-- PROBATION_END (R66) of one slot's record. -/
  | probationEnd (slot : Nat)
  /-- BLIND_PERIOD_END (R6). -/
  | blindPeriodEnd
  /-- NOTE_RECEIVER_BOUNDARY_WORK (R141). -/
  | noteReceiverBoundaryWork
  /-- MUTE_END (R141) of one sender. -/
  | muteEnd (slot : Nat)
  /-- LAPSE (R139) of one peer. -/
  | lapse (slot : Nat)
  /-- NOTE_TRANSMITTER_BOUNDARY_WORK (R122). -/
  | noteTransmitterBoundaryWork
  /-- ENROLMENT_STEP (R151). -/
  | enrolmentStep
  /-- END_OF_ENROLMENT (R152). -/
  | endOfEnrolment
  /-- CLOCK_FAULT (R154). -/
  | clockFault
  /-- BUS_IDLE (R98). -/
  | busIdle
  /-- BEGIN_ATTEMPT (R123). -/
  | beginAttempt
  /-- ARBITRATION_LOST (R101): the arbitration field that stood on the line. -/
  | arbitrationLost (line : Byte)
  /-- READ_BACK_FAILURE (R102). -/
  | readBackFailure
  /-- ATTEMPT_COMPLETE (R102). -/
  | attemptComplete
  /-- RECEIVE_GARBLED_NOTE (R108): what was received. -/
  | receiveGarbledNote (reception : Reception)
  /-- RECEIVE_ENROL (R133). -/
  | receiveEnrol (note : EnrolNote)
  /-- RECEIVE_BEACON (R138). -/
  | receiveBeacon (note : BeaconNote)
  /-- RECEIVE_ACCUSE (R131). -/
  | receiveAccuse (note : AccuseNote)
  /-- RECEIVE_REBUT (R77). -/
  | receiveRebut (note : RebutNote)
  /-- CONFIGURE (R146): the argument bytes. -/
  | configure (record : List Byte)
  /-- READ_STATUS (R161). -/
  | readStatus
  /-- FLAGS_BYTE_CLOCKED (R161). -/
  | flagsByteClocked
  /-- READ_VIEW (R163): the slot byte. -/
  | readView (slot : Byte)
  /-- TAKE_NOTICE (R165). -/
  | takeNotice
  /-- NOTICE_REMOVED (R165). -/
  | noticeRemoved
  /-- RELEASE (R61): the slot byte. -/
  | release (slot : Byte)
  /-- RESTART (R160). -/
  | restart
  /-- RESTART_WARM_RESET (R156). -/
  | restartWarmReset
  /-- UNKNOWN_COMMAND (R160): the command byte. -/
  | unknownCommand (command : Byte)
  /-- COMMAND_ABORTED (R159). -/
  | commandAborted
  deriving DecidableEq, Repr

end Sys2Proof
end

