-- ==== Sys2Proof/Decode.lean ====
section
/-! DEFINITION. The block has no instruction words: no row of spec/opcode_table.json gives bits. -/

namespace Sys2Proof

/-- The command that a word spells by the table's bits: none, since the table gives no row any bits. Log 3. -/
def decodeTableWord (_nbits _w : Nat) : Option Instr := none

end Sys2Proof
end

