-- ==== Sys2Proof/Config.lean ====
section
/-! DEFINITION. What a part fixes at manufacture and what the manual leaves open, as constants without a body. -/

namespace Sys2Proof

/-- The number the manufacturer writes into the part (R143); nothing is known of it. Log 10. -/
opaque Config.rawSerial : Word

/-- The own serial number: fixed at manufacture and nonzero (00 Table 0-1, R143). Every nonzero number is possible. Log 10. -/
def Config.serial : Word := if Config.rawSerial = 0 then 1 else Config.rawSerial

/-- Free value: whether the n-th open order choice hands an observation to the Note Transmitter before the Evidence Engine
(R20: "neither waits for the other"). Log 6. -/
opaque Config.announceFirst : Nat → Bool

/-- Free value: whether, at the n-th open choice, the SLOT_CONFLICT notice of a conflict switch is posted before the digest is
compared (R135 gives no order). Log 8. -/
opaque Config.conflictNoticeFirst : Nat → Bool

/-- Free value: what MISO carries at the n-th byte clocked while CS_N, low since before the part left reset, has not risen (R158 says
only that no byte is taken then). Log 13. -/
opaque Config.heldMiso : Nat → Option Byte

end Sys2Proof
end

