-- ==== Sys2Proof/Machine/State.lean ====
section
/-! DEFINITION. The state of one UX416 as plain data, grouped by the block that owns it (Figure 0-1), and its reset. -/

namespace Sys2Proof.Machine

/-- No command of this block ends in a fault: every error is a latched flag, a notice or a status byte. No constructor. -/
inductive Fault where
  deriving DecidableEq, Repr

/-- Why a command has no meaning. -/
inductive Refusal where
  /-- Raised by exec's arm of a command that has no meaning yet; no arm of the present model raises it. Safe. -/
  | notModelled (mnemonic : String)
  deriving DecidableEq, Repr

/-! ### The Station Controller -/

/-- The reason that MUTE carries (R145). -/
inductive MuteReason where
  | badStrap | slotConflict | configMinority | clockFault
  deriving DecidableEq, Repr

/-- The station state (R145). -/
inductive Station where
  | unconfigured | enrolling | running | quarantined
  | mute (reason : MuteReason)
  deriving DecidableEq, Repr

/-- The fence mode (Table 9-2). -/
inductive FenceMode where
  | report | enforce
  deriving DecidableEq, Repr

/-- The stored configuration record by its fields (Table 9-2). -/
structure ConfigRecord where
  epochCode : Nat
  decay : Nat
  quorum : Nat
  zoneMask : BitVec 5
  tClear : Nat
  tWatch : Nat
  tSuspect : Nat
  tCondemn : Nat
  wMiss : Nat
  wCorrupt : Nat
  wRebut : Nat
  wBabble : Nat
  expiry : Nat
  lapse : Nat
  probation : Nat
  budget : Nat
  babble : Nat
  /-- The timeout codes of classes 0 to 3. -/
  timeouts : List Nat
  baseMask : Half
  sampleMatch : Half
  watch : Half
  fence : FenceMode
  high : Nat
  low : Nat
  deriving DecidableEq, Repr

/-- Where the 1 ms tick comes from (R154). -/
inductive TickSource where
  | clkin | rc
  deriving DecidableEq, Repr

/-- The trigger field of a QUARANTINE notice (Table 5-3). -/
inductive Trigger where
  | evidence | peerQuorum | restored | release
  deriving DecidableEq, Repr

/-- A quarantine trigger held over in ENROLLING, with its zone count (R91). -/
structure HeldTrigger where
  kind : Trigger
  zones : Nat
  deriving DecidableEq, Repr

/-- The Station Controller's state (R143 to R157, R86, R91). -/
structure Controller where
  inReset : Bool
  serial : Word
  slotStrap : BitVec 5
  role : Role
  station : Station
  config : Option ConfigRecord
  digest : Option Half
  msCount : Half
  epoch : Half
  enrolCount : Nat
  monitorArmed : Bool
  tickSource : TickSource
  latch : Bool
  held : Option HeldTrigger
  deriving DecidableEq, Repr

/-! ### The Tap Port and the Exchange Tracker -/

/-- The kind of a tap header record (Table 1-1). -/
inductive TapKind where
  | request | response | cancel | other
  deriving DecidableEq, Repr

/-- Direction of a checked tap record, and of an exchange by its request (R3, Table 1-5). -/
inductive Direction where
  | outbound | inbound
  deriving DecidableEq, Repr

/-- A checked tap record in the tap FIFO, with its direction and peer slot (R4). -/
structure TapEntry where
  kind : TapKind
  cls : Nat
  good : Bool
  dir : Direction
  peer : Nat
  tag : Half
  deriving DecidableEq, Repr

/-- An entry of the Outstanding Exchange Table (Table 1-5). Age 4 marks an entry whose tick has been taken and whose expiry is still
to be carried out in the same tick (R14; Log 5). -/
structure OetEntry where
  dir : Direction
  peer : Nat
  tag : Half
  cls : Nat
  age : Nat
  deriving DecidableEq, Repr

/-- An entry of the answer list (R21). -/
structure Answer where
  requester : Nat
  tag : Half
  good : Bool
  deriving DecidableEq, Repr

/-- The Tap Port's and the Exchange Tracker's state (Table 1-7). -/
structure Tracker where
  tapFifo : List TapEntry
  blind : Nat
  level : Nat
  oet : List OetEntry
  satMark : Bool
  answers : List Answer
  deriving DecidableEq, Repr

/-! ### The Evidence Engine -/

/-- The kinds of evidence (Table 2-1). -/
inductive EvidenceKind where
  | miss | corrupt | rebutted | babble
  deriving DecidableEq, Repr

/-- What a pending entry stands for: one tagged accusation, or a surplus count (Table 2-2). -/
inductive Load where
  | tagged (tag : Half)
  | untagged (count : Nat)
  deriving DecidableEq, Repr

/-- A pending entry (Table 2-2). -/
structure Accusation where
  accuser : Nat
  accused : Nat
  kind : AccKind
  load : Load
  stamp : Half
  deriving DecidableEq, Repr

/-- The standing of a board (R51). -/
inductive Standing where
  | clear | watched | suspect | condemned
  deriving DecidableEq, Repr

/-- What brought about a change of standing (Table 3-3). -/
inductive Cause where
  | evidence | selfReport | peerQuorum | release | replacement
  deriving DecidableEq, Repr

/-- An entry of a witness set (R41). -/
structure Witness where
  slot : Nat
  key : Nat
  epoch : Half
  deriving DecidableEq, Repr

/-- A board record (Table 3-1). The witness set is kept ordered by witness slot. -/
structure BoardRecord where
  score : Nat
  standing : Standing
  cause : Option Cause
  probation : Nat
  quorumShort : Bool
  witnesses : List Witness
  deriving DecidableEq, Repr

/-- The Evidence Engine's state: the pending accusation list, oldest first (R27), and the board records of slots 1 to 24 (R51). -/
structure Engine where
  accusations : List Accusation
  records : List BoardRecord
  deriving DecidableEq, Repr

/-! ### The Note Receiver -/

/-- Roster presence (Table 8-1). -/
inductive Presence where
  | unseen | present | lapsed
  deriving DecidableEq, Repr

/-- A roster entry (Table 8-1). -/
structure RosterEntry where
  serial : Word
  role : Role
  matched : Bool
  presence : Presence
  lapse : Nat
  lastSeq : Option Byte
  accepted : Nat
  mute : Nat
  quarantined : Bool
  saturated : Bool
  condemnsMe : Bool
  conflictSeen : Bool
  deriving DecidableEq, Repr

/-- The Note Receiver's state: the roster of slots 1 to 24 (R129) and the bus receiver's idle count and readiness (R98, R106). -/
structure Receiver where
  roster : List RosterEntry
  idleCount : Nat
  rxReady : Bool
  deriving DecidableEq, Repr

/-! ### The Note Transmitter -/

/-- The pools of the transmit buffer (Table 7-1). -/
inductive Pool where
  | beacon | rebut | accuse | shared
  deriving DecidableEq, Repr

/-- A beacon's content, composed when its first attempt begins (R114). -/
structure BeaconContent where
  serial : Word
  role : Role
  digest : Half
  quarantined : Bool
  saturated : Bool
  condemned : List Byte
  deriving DecidableEq, Repr

/-- The content of a buffered note (Table 7-2). -/
inductive Content where
  | enrol (serial : Word) (role : Role) (digest : Half)
  | beacon (composed : Option BeaconContent)
  | accuse (accused : Nat) (kind : AccKind) (tags : List Half) (surplus : Nat)
  | rebut (accuser : Nat) (tag : Half) (kind : AccKind)
  deriving DecidableEq, Repr

/-- Whether a buffered note has begun: waiting (not begun), its attempt under way, or the retry head (R104, R117). -/
inductive NoteState where
  | waiting | underWay | retryHead
  deriving DecidableEq, Repr

/-- A buffered note (Table 7-2). `noRetry` is the mark that R93 and R105 set at a change of state on a note whose attempt is under
way: if the attempt fails or is lost, the note is discarded without a retry. -/
structure TxNote where
  content : Content
  pool : Pool
  state : NoteState
  seq : Option Byte
  attempts : Nat
  noRetry : Bool
  deriving DecidableEq, Repr

/-- The Note Transmitter's state: the transmit buffer in queue order (R117), the note budget (R122) and the note sequence counter
(R111). -/
structure Transmitter where
  buffer : List TxNote
  budget : Nat
  seqCounter : Byte
  deriving DecidableEq, Repr

/-! ### The Service Link -/

/-- The note kind that an XMIT_TROUBLE notice names (Table 11-1). -/
inductive NoteKind where
  | enrol | beacon | accuse | rebut
  deriving DecidableEq, Repr

/-- The event of a QUARANTINE notice (Table 5-3). -/
inductive QuarantineEvent where
  | entered | left | latchSet | latchCleared
  deriving DecidableEq, Repr

/-- The reason and detail of a MUTED notice (Table 9-5). -/
inductive MuteDetail where
  | badStrap (strap : BitVec 5)
  | slotConflict (kept : Word)
  | configMinority (mismatched matched : Nat)
  | clockFault
  deriving DecidableEq, Repr

/-- The serial refused in a SLOT_CONFLICT notice: a full serial, or a serial tag (R135, R136). -/
inductive Refused where
  | serial (n : Word)
  | tag (t : Half)
  deriving DecidableEq, Repr

/-- The kind fields of a notice (Table 10-4). -/
inductive NoticeBody where
  | standing (slot : Nat) (old new : Standing) (cause : Cause)
  | presence (slot : Nat) (old new : Presence)
  | replaced (slot : Nat) (old new : Word)
  | mismatch (slot : Nat) (matched : Bool) (digest : Half)
  | slotConflict (slot : Nat) (kept : Word) (refused : Refused)
  | path (accuser rebutter : Nat) (tag : Half) (kind : AccKind)
  | quarantine (event : QuarantineEvent) (trigger : Trigger) (latch : Bool) (zones : Nat)
  | muted (detail : MuteDetail) (previous : Option Station) (latch : Bool)
  | xmitTrouble (kind : NoteKind) (seq : Byte)
  deriving DecidableEq, Repr

/-- A notice: its kind fields, the epoch number at posting and the overrun mark (R164). -/
structure Notice where
  body : NoticeBody
  epoch : Half
  overrun : Bool
  deriving DecidableEq, Repr

/-- The Service Link's state: the latched flags with their re-latch marks, the notice queue, and what stands open of the transaction
in progress (R158 to R165). `lead` is the number of bytes that stand before the response in the transaction whose command was taken last
(command, arguments, dummy byte); none where no such transaction is in progress. -/
structure Link where
  flags : BitVec 7
  relatched : BitVec 7
  notices : List Notice
  lead : Option Nat
  response : List Byte
  shown : Option (BitVec 7)
  noticeOpen : Bool
  restartOpen : Bool
  deriving DecidableEq, Repr

/-! ### The model's own marks -/

/-- A request of the run that an accepted ACCUSE becomes (R30, R72, R131): the addition of a tagged entry or of a surplus, one lookup of
the rebuttal path with its outcome, and the count of the note. -/
inductive Request where
  | addTagged (accuser accused : Nat) (kind : AccKind) (tag : Half)
  | addSurplus (accuser accused : Nat) (kind : AccKind) (count : Nat)
  | lookup (accuser : Nat) (kind : AccKind) (tag : Half)
  | count (sender : Nat)
  deriving DecidableEq, Repr

/-- The work of the present moment that is still to be taken (Log 4, Log 5, Log 25): the requests of an accepted ACCUSE that are still to
be carried out (R50); the classes whose tick has fallen (R13); whether an epoch boundary has fallen (R150); and, of the boundary that
fell last, each block's own work. `evidence` is 0 when the Evidence Engine has no boundary work, else the step of Table 2-7 it comes to
next; `receiver` likewise for the steps of R141. -/
structure Due where
  run : List Request
  classTicks : List (Fin 4)
  boundary : Bool
  blind : Bool
  evidence : Nat
  receiver : Nat
  transmitter : Bool
  enrolment : Bool
  deriving DecidableEq, Repr

/-- The state of one UX416. -/
structure State where
  ctl : Controller
  trk : Tracker
  eng : Engine
  rcv : Receiver
  xmt : Transmitter
  lnk : Link
  /-- The model's own: work of the present moment (Log 4). -/
  due : Due
  /-- The model's own: the counter of the open order choices (Log 6). -/
  choices : Nat
  /-- The model's own input beside the queue, one number for each accepted ACCUSE to come: how many of the last requests of its run a
  reading that follows finds still to be carried out (R50). None are held where the list has run out. Log 25. -/
  overlaps : List Nat
  /-- The commands that wait, first in, first out. -/
  pending : List Instr
  deriving DecidableEq, Repr

/-! ### Reset values -/

/-- A board record after reset (Table 2-9, Table 3-6). -/
def BoardRecord.reset : BoardRecord :=
  { score := 0, standing := .clear, cause := none, probation := 0, quorumShort := false, witnesses := [] }

/-- A peer's roster entry after reset (Table 8-3). -/
def RosterEntry.reset : RosterEntry :=
  { serial := 0, role := .front, matched := true, presence := .unseen, lapse := 0, lastSeq := none, accepted := 0, mute := 0,
    quarantined := false, saturated := false, condemnsMe := false, conflictSeen := false }

/-- The Station Controller in reset (Table 9-6), with the serial the part has and the latch as given. The straps are sampled on
leaving reset (R143); until then slot strap 0 and role FRONT stand: DESIGN CHOICE, Log 11. -/
def Controller.reset (serial : Word) (latch : Bool) : Controller :=
  { inReset := true, serial := serial, slotStrap := 0, role := .front, station := .unconfigured, config := none, digest := none,
    msCount := 0, epoch := 0, enrolCount := 0, monitorArmed := false, tickSource := .clkin, latch := latch, held := none }

/-- The Tap Port and the Exchange Tracker after reset (Table 1-7). -/
def Tracker.reset : Tracker :=
  { tapFifo := [], blind := 0, level := 0, oet := [], satMark := false, answers := [] }

/-- The Evidence Engine after reset (Table 2-9, Table 3-6). -/
def Engine.reset : Engine :=
  { accusations := [], records := List.replicate 24 BoardRecord.reset }

/-- The Note Receiver after reset (Table 8-3, Table 6-2). -/
def Receiver.reset : Receiver :=
  { roster := List.replicate 24 RosterEntry.reset, idleCount := 0, rxReady := false }

/-- The Note Transmitter after reset (Table 7-3). -/
def Transmitter.reset : Transmitter :=
  { buffer := [], budget := 0, seqCounter := 0 }

/-- The Service Link after reset (R158, R162, R164). -/
def Link.reset : Link :=
  { flags := 0, relatched := 0, notices := [], lead := none, response := [], shown := none, noticeOpen := false, restartOpen := false }

/-- Nothing is due. -/
def Due.none : Due :=
  { run := [], classTicks := [], boundary := false, blind := false, evidence := 0, receiver := 0, transmitter := false, enrolment := false }

/-- The part as power-on reset leaves it, held in reset with its straps not yet sampled (R156); the first command that takes effect
is LEAVE_RESET. Log 3. -/
def State.reset : State :=
  { ctl := Controller.reset Config.serial false, trk := Tracker.reset, eng := Engine.reset, rcv := Receiver.reset,
    xmt := Transmitter.reset, lnk := Link.reset, due := Due.none, choices := 0, overlaps := [], pending := [] }

end Sys2Proof.Machine
end

