-- ==== Sys2Proof/Machine/Flags.lean ====
section
/-! DEFINITION. The seven latched flags (Table 10-3) and the notice queue of the Service Link (R161 to R166). -/

namespace Sys2Proof.Machine

/-- TAP_GARBLED (bit 0 of the flags byte, Table 11-10). -/
def tapGarbled : BitVec 7 := 0x01
/-- TAP_OVERRUN (bit 1). -/
def tapOverrun : BitVec 7 := 0x02
/-- SAMPLING_SATURATED (bit 2). -/
def samplingSaturated : BitVec 7 := 0x04
/-- NOTE_DROPPED (bit 3). -/
def noteDropped : BitVec 7 := 0x08
/-- XMIT_TROUBLE (bit 4). -/
def xmitTroubleFlag : BitVec 7 := 0x10
/-- RX_GARBLED (bit 5). -/
def rxGarbled : BitVec 7 := 0x20
/-- NOTICE_OVERRUN (bit 6). -/
def noticeOverrun : BitVec 7 := 0x40

/-- A flag's condition occurs: the flag is set, set already or not (R162), and its re-latch mark with it (R161). -/
def State.latchFlag (s : State) (f : BitVec 7) : State :=
  { s with lnk := { s.lnk with flags := s.lnk.flags ||| f, relatched := s.lnk.relatched ||| f } }

/-- The flags after the flags byte has been clocked out: each flag shown set is cleared unless it re-latched since the snapshot, and
the others stand (R161). -/
def clearShown (flags shown relatched : BitVec 7) : BitVec 7 := flags &&& ~~~(shown &&& ~~~relatched)

/-- The queue with the overrun mark set on its newest notice (R164). -/
def markNewest : List Notice → List Notice
  | [] => []
  | [n] => [{ n with overrun := true }]
  | n :: m :: rest => n :: markNewest (m :: rest)

/-- Posting a notice (R164): appended where the queue holds fewer than 32, else discarded, with the newest stored notice marked and
NOTICE_OVERRUN latched. -/
def State.post (s : State) (b : NoticeBody) : State :=
  if s.lnk.notices.length < 32 then
    { s with lnk := { s.lnk with notices := s.lnk.notices ++ [{ body := b, epoch := s.ctl.epoch, overrun := false }] } }
  else
    ({ s with lnk := { s.lnk with notices := markNewest s.lnk.notices } }).latchFlag noticeOverrun

/-- ALERT_N as the pin's level: low (false) exactly while the queue holds a notice (R166). -/
def State.alertN (s : State) : Bool := s.lnk.notices.isEmpty

end Sys2Proof.Machine
end

