-- ==== Sys2Proof/Machine/Operands.lean ====
section
/-! DEFINITION. The byte layouts of the formats chapter: reading tap records, configuration records and notes, writing notes and
notices, and the 16-bit check over them. Multi-byte fields are most significant byte first (00, 0.7). -/

namespace Sys2Proof.Machine

/-! ### Bytes -/

/-- The byte at an offset (0 beyond the end). -/
def byteAt (bs : List Byte) (i : Nat) : Byte := bs.getD i 0

/-- The two-byte field at an offset. -/
def halfAt (bs : List Byte) (i : Nat) : Half := byteAt bs i ++ byteAt bs (i + 1)

/-- The four-byte field at an offset. -/
def wordAt (bs : List Byte) (i : Nat) : Word := halfAt bs i ++ halfAt bs (i + 2)

/-- The two bytes of a 16-bit field. -/
def halfBytes (h : Half) : List Byte := [h.extractLsb' 8 8, h.extractLsb' 0 8]

/-- The four bytes of a 32-bit field. -/
def wordBytes (w : Word) : List Byte := halfBytes (w.extractLsb' 16 16) ++ halfBytes (w.extractLsb' 0 16)

/-- A number as a byte. -/
def byteOf (n : Nat) : Byte := BitVec.ofNat 8 n

/-- A number as a two-byte field. -/
def numBytes (n : Nat) : List Byte := halfBytes (BitVec.ofNat 16 n)

/-- A flag as bit k of a byte. -/
def flagBit (b : Bool) (k : Nat) : Byte := if b then (1 : Byte) <<< k else 0

/-- The serial tag of a serial: its low 16 bits (00 Table 0-1). -/
def serialTag (serial : Word) : Half := serial.extractLsb' 0 16

/-! ### The 16-bit check (R110) -/

/-- The register after one bit: generator 1021h, most significant bit first. -/
def crcBit (reg : Half) (bit : Bool) : Half :=
  if reg.msb != bit then (reg <<< 1) ^^^ 0x1021 else reg <<< 1

/-- The register after one byte, taken most significant bit first. -/
def crcByte (reg : Half) (b : Byte) : Half :=
  [7, 6, 5, 4, 3, 2, 1, 0].foldl (fun r k => crcBit r (b.getLsbD k)) reg

/-- The check over a run of bytes: register FFFFh before the first, no inversion of the result. -/
def crc16 (bs : List Byte) : Half := bs.foldl crcByte 0xFFFF

/-! ### Codes (Table 11-1) -/

/-- Role code. -/
def roleCode : Role → Byte
  | .front => 0
  | .auth => 1
  | .posting => 2
  | .gateway => 3

/-- The role of a code; none above 3 (R109). -/
def roleOf (b : Byte) : Option Role :=
  if b = 0 then some .front else if b = 1 then some .auth else if b = 2 then some .posting
  else if b = 3 then some .gateway else none

/-- The role a role strap gives (R143: every value is good). -/
def strapRole (b : BitVec 2) : Role :=
  if b = 0 then .front else if b = 1 then .auth else if b = 2 then .posting else .gateway

/-- The role's number in the watch vector (Table 1-4). -/
def roleNumber (r : Role) : Nat := (roleCode r).toNat

/-- Evidence kind code of an accusation. -/
def accKindCode : AccKind → Byte
  | .miss => 1
  | .corrupt => 2

/-- The accusation kind of a code; any other is malformed (R109). -/
def accKindOf (b : Byte) : Option AccKind :=
  if b = 1 then some .miss else if b = 2 then some .corrupt else none

/-- Note kind code. -/
def noteKindCode : NoteKind → Byte
  | .enrol => 1
  | .beacon => 2
  | .accuse => 3
  | .rebut => 4

/-- Mute reason code. -/
def reasonCode : MuteReason → Byte
  | .badStrap => 1
  | .slotConflict => 2
  | .configMinority => 3
  | .clockFault => 4

/-- Station state code. -/
def stationCode : Station → Byte
  | .unconfigured => 0
  | .enrolling => 1
  | .running => 2
  | .quarantined => 3
  | .mute _ => 4

/-- Mute reason byte of a station state: 0 outside MUTE. -/
def stationReason : Station → Byte
  | .mute r => reasonCode r
  | .unconfigured | .enrolling | .running | .quarantined => 0

/-- Presence code. -/
def presenceCode : Presence → Byte
  | .unseen => 0
  | .present => 1
  | .lapsed => 2

/-- Standing code. -/
def standingCode : Standing → Byte
  | .clear => 0
  | .watched => 1
  | .suspect => 2
  | .condemned => 3

/-- Cause code of a cause. -/
def causeCode : Cause → Byte
  | .evidence => 1
  | .selfReport => 2
  | .peerQuorum => 3
  | .release => 4
  | .replacement => 5

/-- Digest match code: 0 MATCHED, 1 MISMATCHED. -/
def matchCode (matched : Bool) : Byte := if matched then 0 else 1

/-- QUARANTINE notice event code (Table 11-13). -/
def eventCode : QuarantineEvent → Byte
  | .entered => 0
  | .left => 1
  | .latchSet => 2
  | .latchCleared => 3

/-- QUARANTINE notice trigger code (Table 11-13). -/
def triggerCode : Trigger → Byte
  | .evidence => 1
  | .peerQuorum => 2
  | .restored => 3
  | .release => 4

/-! ### Tap header records (Table 11-2) -/

/-- The record check of R2: the XOR of the first five bytes equals the sixth. -/
def tapCheck (bs : List Byte) : Bool :=
  decide (byteAt bs 0 ^^^ byteAt bs 1 ^^^ byteAt bs 2 ^^^ byteAt bs 3 ^^^ byteAt bs 4 = byteAt bs 5)

/-- The frame kind in bits 7 and 6 of byte 0; every value names a kind (R167). -/
def tapKind (b : Byte) : TapKind :=
  if b.extractLsb' 6 2 = 0 then .request else if b.extractLsb' 6 2 = 1 then .response
  else if b.extractLsb' 6 2 = 2 then .cancel else .other

/-- A slot field of a tap record, in bits 7 to 3 of its byte; bits 2 to 0 are ignored (R167). -/
def tapSlot (b : Byte) : Nat := (b.extractLsb' 3 5).toNat

/-- The direction and peer slot of a record, or none where R3 discards it for its slots. -/
def tapDirection (own source destination : Nat) : Option (Direction × Nat) :=
  if source = own ∧ destination ≠ own ∧ 1 ≤ destination ∧ destination ≤ 24 then some (.outbound, destination)
  else if destination = own ∧ source ≠ own ∧ 1 ≤ source ∧ source ≤ 24 then some (.inbound, source)
  else none

/-- The record that R3 passes on to the tap FIFO, or none where it discards it for its slots or for kind OTHER. -/
def tapEntry (own : Nat) (bs : List Byte) : Option TapEntry :=
  if tapKind (byteAt bs 0) = .other then none
  else (tapDirection own (tapSlot (byteAt bs 1)) (tapSlot (byteAt bs 2))).map fun dp =>
    { kind := tapKind (byteAt bs 0), cls := ((byteAt bs 0).extractLsb' 4 2).toNat, good := (byteAt bs 0).getLsbD 3,
      dir := dp.1, peer := dp.2, tag := halfAt bs 3 }

/-! ### Configuration records (Table 11-8, R147, R148) -/

/-- A number held within its stored range. -/
def clamp (lo hi x : Nat) : Nat := max lo (min hi x)

/-- The record clamped field by field into its stored ranges (R147). -/
def configOf (bs : List Byte) : ConfigRecord :=
  let n := fun i => (byteAt bs i).toNat
  let h := fun i => (halfAt bs i).toNat
  let high := clamp 16 64 (n 32)
  { epochCode := min 4 (n 0), decay := clamp 2 6 (n 1), quorum := clamp 1 4 (n 2), zoneMask := BitVec.ofNat 5 (min 31 (n 3)),
    tClear := min 4095 (h 4), tWatch := min 4095 (h 6), tSuspect := min 4095 (h 8), tCondemn := min 4095 (h 10),
    wMiss := max 1 (n 12), wCorrupt := max 1 (n 13), wRebut := max 1 (n 14), wBabble := max 1 (n 15),
    expiry := clamp 1 15 (n 16), lapse := clamp 2 15 (n 17), probation := max 1 (n 18), budget := clamp 1 32 (n 19),
    babble := max 4 (n 20), timeouts := [min 12 (n 21), min 12 (n 22), min 12 (n 23), min 12 (n 24)],
    baseMask := halfAt bs 25, sampleMatch := halfAt bs 27 &&& halfAt bs 25, watch := halfAt bs 29,
    fence := if n 31 = 0 then .report else .enforce, high := high, low := min (n 33) (high - 8) }

/-- The threshold order test (R148, test 1). -/
def thresholdsOrdered (c : ConfigRecord) : Bool :=
  decide (c.tClear < c.tWatch) && decide (c.tWatch < c.tSuspect) && decide (c.tSuspect < c.tCondemn)

/-- The babble limit test (R148, test 2). -/
def babbleAllowed (c : ConfigRecord) : Bool := decide (2 * c.budget + 2 ≤ c.babble)

/-- The timeout code of a class. -/
def timeoutCode (c : ConfigRecord) (cls : Nat) : Nat := c.timeouts.getD cls 0

/-- The 31 stored shelf-wide bytes in layout order (R149, Table 11-8). -/
def shelfBytes (c : ConfigRecord) : List Byte :=
  [byteOf c.epochCode, byteOf c.decay, byteOf c.quorum, byteOf c.zoneMask.toNat] ++
  (numBytes c.tClear ++ (numBytes c.tWatch ++ (numBytes c.tSuspect ++ numBytes c.tCondemn))) ++
  [byteOf c.wMiss, byteOf c.wCorrupt, byteOf c.wRebut, byteOf c.wBabble, byteOf c.expiry, byteOf c.lapse, byteOf c.probation,
    byteOf c.budget, byteOf c.babble, byteOf (timeoutCode c 0), byteOf (timeoutCode c 1), byteOf (timeoutCode c 2),
    byteOf (timeoutCode c 3)] ++
  (halfBytes c.baseMask ++ (halfBytes c.sampleMatch ++ halfBytes c.watch))

/-- The digest of a stored record (R149). -/
def digestOf (c : ConfigRecord) : Half := crc16 (shelfBytes c)

/-! ### Notes (Tables 11-3 to 11-7) -/

/-- The urgency that a note's kind calls for (R100). -/
def urgencyOf : NoteKind → BitVec 2
  | .enrol => 0
  | .beacon => 0
  | .rebut => 1
  | .accuse => 2

/-- The arbitration field: urgency, sender slot, fixed bit 1 (R100). -/
def arbitrationField (kind : NoteKind) (sender : BitVec 5) : Byte := urgencyOf kind ++ sender ++ (1 : BitVec 1)

/-- The common header (Table 11-3). -/
def headerBytes (kind : NoteKind) (sender : BitVec 5) (tag : Half) (seq : Byte) : List Byte :=
  [arbitrationField kind sender, noteKindCode kind] ++ halfBytes tag ++ [seq]

/-- The bytes of a note before its note check. -/
def bodyBytes : Note → List Byte
  | .enrol n => headerBytes .enrol n.sender (serialTag n.serial) n.seq ++ wordBytes n.serial ++ [roleCode n.role] ++ halfBytes n.digest
  | .beacon n =>
    headerBytes .beacon n.sender (serialTag n.serial) n.seq ++ wordBytes n.serial ++ [roleCode n.role] ++ halfBytes n.digest ++
      [flagBit n.quarantined 0 ||| flagBit n.saturated 1, byteOf n.condemned.length] ++ n.condemned
  | .accuse n =>
    headerBytes .accuse n.sender n.serialTag n.seq ++ [n.accused, accKindCode n.kind, byteOf n.tags.length] ++
      n.tags.flatMap halfBytes ++ [n.surplus]
  | .rebut n => headerBytes .rebut n.sender n.serialTag n.seq ++ [n.accuser] ++ halfBytes n.tag ++ [accKindCode n.kind]

/-- The bytes of a note as they stand on the line, note check last (R110, R168). -/
def noteBytes (n : Note) : List Byte := bodyBytes n ++ halfBytes (crc16 (bodyBytes n))

/-- The length that a note's kind and counts give (R108, R168); none where too few bytes have been framed to tell, and where the kind
or the count makes the note malformed. -/
def noteLength (bs : List Byte) : Option Nat :=
  if bs.length < 2 then none
  else if byteAt bs 1 = 1 then some 14
  else if byteAt bs 1 = 2 then
    if bs.length < 14 ∨ 24 < (byteAt bs 13).toNat then none else some (16 + (byteAt bs 13).toNat)
  else if byteAt bs 1 = 3 then
    if bs.length < 8 ∨ (byteAt bs 7).toNat = 0 ∨ 6 < (byteAt bs 7).toNat then none else some (11 + 2 * (byteAt bs 7).toNat)
  else if byteAt bs 1 = 4 then some 11
  else none

/-- Whether the bytes framed reach the note's end, at which it is judged: its length, or the byte that makes its kind unknown or its
count one for which no length can be known (R108, R168). -/
def noteEnded (bs : List Byte) : Bool :=
  match noteLength bs with
  | some n => decide (n ≤ bs.length)
  | none =>
    if byteAt bs 1 = 2 then decide (14 ≤ bs.length)
    else if byteAt bs 1 = 3 then decide (8 ≤ bs.length)
    else decide (2 ≤ bs.length)

/-- The sender slot in the arbitration field (R111). -/
def senderOf (bs : List Byte) : BitVec 5 := (byteAt bs 0).extractLsb' 1 5

/-- Whether the arbitration field carries the fixed bit and the urgency the kind calls for (R109). -/
def fieldFits (kind : NoteKind) (bs : List Byte) : Bool := decide (byteAt bs 0 = arbitrationField kind (senderOf bs))

/-- The note that a complete run of bytes spells, or none where it is malformed (R109). -/
def parseNote (bs : List Byte) : Option Note :=
  if byteAt bs 1 = 1 then
    match roleOf (byteAt bs 9) with
    | some role =>
      if fieldFits .enrol bs ∧ wordAt bs 5 ≠ 0 ∧ halfAt bs 2 = serialTag (wordAt bs 5) then
        some (.enrol { sender := senderOf bs, seq := byteAt bs 4, serial := wordAt bs 5, role := role, digest := halfAt bs 10 })
      else none
    | none => none
  else if byteAt bs 1 = 2 then
    match roleOf (byteAt bs 9) with
    | some role =>
      if fieldFits .beacon bs ∧ wordAt bs 5 ≠ 0 ∧ halfAt bs 2 = serialTag (wordAt bs 5) then
        some (.beacon { sender := senderOf bs, seq := byteAt bs 4, serial := wordAt bs 5, role := role, digest := halfAt bs 10,
                        quarantined := (byteAt bs 12).getLsbD 0, saturated := (byteAt bs 12).getLsbD 1,
                        condemned := (bs.drop 14).take (byteAt bs 13).toNat })
      else none
    | none => none
  else if byteAt bs 1 = 3 then
    match accKindOf (byteAt bs 6) with
    | some kind =>
      if fieldFits .accuse bs then
        some (.accuse { sender := senderOf bs, serialTag := halfAt bs 2, seq := byteAt bs 4, accused := byteAt bs 5, kind := kind,
                        tags := (List.range (byteAt bs 7).toNat).map (fun i => halfAt bs (8 + 2 * i)),
                        surplus := byteAt bs (8 + 2 * (byteAt bs 7).toNat) })
      else none
    | none => none
  else if byteAt bs 1 = 4 then
    match accKindOf (byteAt bs 8) with
    | some kind =>
      if fieldFits .rebut bs then
        some (.rebut { sender := senderOf bs, serialTag := halfAt bs 2, seq := byteAt bs 4, accuser := byteAt bs 5,
                       tag := halfAt bs 6, kind := kind })
      else none
    | none => none
  else none

/-- The bus receiver's judgement of the bytes framed (R108 to R110): the note, or none where it is incomplete, its note check is bad
or it is malformed. Bytes beyond the note's end are passed over. -/
def judge (bs : List Byte) : Option Note :=
  match noteLength bs with
  | some n =>
    if n ≤ bs.length ∧ crc16 (bs.take (n - 2)) = halfAt bs (n - 2) then parseNote (bs.take n) else none
  | none => none

/-! ### Notices (Tables 11-12, 11-13) -/

/-- The kind byte and kind fields of a notice, before the padding to 14 bytes. -/
def noticeFields : NoticeBody → Byte × List Byte
  | .standing x o n c => (1, [byteOf x, standingCode o, standingCode n, causeCode c])
  | .presence x o n => (2, [byteOf x, presenceCode o, presenceCode n])
  | .replaced x o n => (3, [byteOf x] ++ wordBytes o ++ wordBytes n)
  | .mismatch x m d => (4, [byteOf x, matchCode m] ++ halfBytes d)
  | .slotConflict x k (.serial r) => (5, [byteOf x] ++ wordBytes k ++ wordBytes r ++ [0])
  | .slotConflict x k (.tag t) => (5, [byteOf x] ++ wordBytes k ++ [0, 0] ++ halfBytes t ++ [1])
  | .path a x t k => (6, [byteOf a, byteOf x] ++ halfBytes t ++ [accKindCode k])
  | .quarantine e t l z => (7, [eventCode e, triggerCode t, if l then 1 else 0, byteOf z])
  | .muted d p l =>
    let previous : Byte := match p with
      | some st => stationCode st
      | none => 0xFF
    let latch : Byte := if l then 1 else 0
    match d with
    | .badStrap v => (8, [reasonCode .badStrap, previous, latch, byteOf v.toNat])
    | .slotConflict k => (8, [reasonCode .slotConflict, previous, latch] ++ wordBytes k)
    | .configMinority a b => (8, [reasonCode .configMinority, previous, latch, byteOf a, byteOf b])
    | .clockFault => (8, [reasonCode .clockFault, previous, latch])
  | .xmitTrouble k q => (9, [noteKindCode k, q])

/-- The 14 bytes of a notice record; bytes its kind does not use are 0 (R169). -/
def noticeBytes (n : Notice) : List Byte :=
  let kf := noticeFields n.body
  [kf.1, flagBit n.overrun 0] ++ halfBytes n.epoch ++ kf.2 ++ List.replicate (10 - kf.2.length) 0

end Sys2Proof.Machine
end

