-- ==== Sys2Proof/WellFormed.lean ====
section
/-! DEFINITION. Which commands are well formed: operands that can stand for the event the row names. The meanings are total; the
docstring of each meaning says what an ill-formed operand comes to. -/

namespace Sys2Proof

/-- A slot number 1 to 24 (00, 0.7). -/
def isSlot (x : Nat) : Bool := decide (1 ≤ x) && decide (x ≤ 24)

/-- The command bytes of Table 11-9. -/
def commandBytes : List Byte := [0x10, 0x20, 0x21, 0x30, 0x40, 0x7E]

/-- An ENROL whose serial is 0 is malformed (R109). -/
def EnrolNote.wellFormed (n : EnrolNote) : Bool := decide (n.serial ≠ 0)

/-- A BEACON whose serial is 0 or whose list count is above 24 is malformed (R109). -/
def BeaconNote.wellFormed (n : BeaconNote) : Bool := decide (n.serial ≠ 0) && decide (n.condemned.length ≤ 24)

/-- An ACCUSE whose tag count is 0 or above 6 is malformed (R109). -/
def AccuseNote.wellFormed (n : AccuseNote) : Bool := decide (1 ≤ n.tags.length) && decide (n.tags.length ≤ 6)

/-- The fields of a REBUT admit no malformed value (R109). -/
def RebutNote.wellFormed (_ : RebutNote) : Bool := true

/-- Well-formed notes. -/
def Note.wellFormed : Note → Bool
  | .enrol n => n.wellFormed
  | .beacon n => n.wellFormed
  | .accuse n => n.wellFormed
  | .rebut n => n.wellFormed

/-- Well-formed commands. -/
def Instr.wellFormed (i : Instr) : Bool :=
  match i with
  | .powerOnReset => true
  | .resetNLow => true
  | .leaveReset _ _ => true
  | .tapRecord bytes => decide (6 ≤ bytes.length)
  | .tapRecordIncomplete bytes => decide (bytes.length < 6)
  | .takeTapRecord => true
  | .msTick => true
  | .classTick _ => true
  | .oetEntryExpiry => true
  | .epochBoundary => true
  | .evidenceBoundaryWork => true
  | .witnessExpiry accused witness => isSlot accused && isSlot witness
  | .pendingEntryDue => true
  | .probationEnd slot => isSlot slot
  | .blindPeriodEnd => true
  | .noteReceiverBoundaryWork => true
  | .muteEnd slot => isSlot slot
  | .lapse slot => isSlot slot
  | .noteTransmitterBoundaryWork => true
  | .enrolmentStep => true
  | .endOfEnrolment => true
  | .clockFault => true
  | .busIdle => true
  | .beginAttempt => true
  | .arbitrationLost _ => true
  | .readBackFailure => true
  | .attemptComplete => true
  | .receiveGarbledNote _ => true
  | .receiveEnrol note => note.wellFormed
  | .receiveBeacon note => note.wellFormed
  | .receiveAccuse note => note.wellFormed
  | .receiveRebut note => note.wellFormed
  | .configure record => decide (record.length = 34)
  | .readStatus => true
  | .flagsByteClocked => true
  | .readView _ => true
  | .takeNotice => true
  | .noticeRemoved => true
  | .release _ => true
  | .restart => true
  | .restartWarmReset => true
  | .unknownCommand command => !commandBytes.contains command
  | .commandAborted => true

end Sys2Proof
end

