-- ==== Sys2Proof/Machine/Ops.lean ====
section
/-! DEFINITION. The operations that several commands share: board records and roster entries, the transmit buffer, quarantine and MUTE,
evidence, the pending accusation list and observations. -/

namespace Sys2Proof.Machine

/-! ### Reading and writing the tables -/

/-- The slots 1 to 24 in ascending order. -/
def slots : List Nat := List.range' 1 24

/-- The board record of a slot from 1 to 24 (R51). -/
def State.record (s : State) (x : Nat) : BoardRecord := s.eng.records.getD (x - 1) BoardRecord.reset

/-- Writes the board record of a slot from 1 to 24. -/
def State.setRecord (s : State) (x : Nat) (r : BoardRecord) : State :=
  { s with eng := { s.eng with records := s.eng.records.set (x - 1) r } }

/-- Applies one change to every board record. -/
def State.mapRecords (s : State) (f : BoardRecord → BoardRecord) : State :=
  { s with eng := { s.eng with records := s.eng.records.map f } }

/-- Writes the pending accusation list. -/
def State.setAccusations (s : State) (l : List Accusation) : State := { s with eng := { s.eng with accusations := l } }

/-- The roster entry of a slot from 1 to 24 (R129). -/
def State.entry (s : State) (x : Nat) : RosterEntry := s.rcv.roster.getD (x - 1) RosterEntry.reset

/-- Writes the roster entry of a slot from 1 to 24. -/
def State.setEntry (s : State) (x : Nat) (e : RosterEntry) : State :=
  { s with rcv := { s.rcv with roster := s.rcv.roster.set (x - 1) e } }

/-- Writes the transmit buffer. -/
def State.setBuffer (s : State) (l : List TxNote) : State := { s with xmt := { s.xmt with buffer := l } }

/-- The own slot as a number: the slot strap value sampled (R143). With a bad strap it is 0 or above 24 and equals no slot. -/
def State.ownSlot (s : State) : Nat := s.ctl.slotStrap.toNat

/-- Whether the own board's record is CONDEMNED. -/
def State.ownCondemned (s : State) : Bool := isSlot s.ownSlot && decide ((s.record s.ownSlot).standing = .condemned)

/-- Whether the configuration record is locked: exactly while one is stored (R149). -/
def State.locked (s : State) : Bool := s.ctl.config.isSome

/-- Whether the epoch clock and the millisecond count run: exactly while a configuration record is stored (R150). -/
def State.clockRuns (s : State) : Bool := s.ctl.config.isSome

/-- ISOLATE: asserted exactly while the quarantine latch is set (R86). -/
def State.isolate (s : State) : Bool := s.ctl.latch

/-- The fence map: the slots other than the own slot whose standing is CONDEMNED, ascending (R60). -/
def State.fenceMap (s : State) : List Nat :=
  slots.filter fun x => decide (x ≠ s.ownSlot) && decide ((s.record x).standing = .condemned)

/-- The epoch number that the Evidence Engine goes by: the station's, but the old one between a boundary and the engine's own work at it,
since a request taken before that work bears the old number (R48, R83; Log 23). -/
def State.evidenceEpoch (s : State) : Half := if s.due.evidence = 1 then s.ctl.epoch - 1 else s.ctl.epoch

/-! ### Zones (R37, R45) -/

/-- The zone key of a slot under a zone mask (R37). -/
def zoneKey (mask : BitVec 5) (x : Nat) : Nat := if mask = 0 then x else (BitVec.ofNat 5 x &&& mask).toNat

/-- Whether a witness and an accused are correlated: different slots with equal zone keys (R37). -/
def correlated (c : ConfigRecord) (w a : Nat) : Bool :=
  decide (w ≠ a) && decide (zoneKey c.zoneMask w = zoneKey c.zoneMask a)

/-- The independent-zone count z of a record with accused slot a (R45). -/
def independentZones (c : ConfigRecord) (a : Nat) (ws : List Witness) : Nat :=
  (((ws.filter fun w => decide (w.slot ≠ a) && decide (w.key ≠ zoneKey c.zoneMask a)).map Witness.key).dedup).length

/-! ### The transmit buffer (R117 to R127) -/

/-- The kind of a buffered note. -/
def Content.kind : Content → NoteKind
  | .enrol _ _ _ => .enrol
  | .beacon _ => .beacon
  | .accuse _ _ _ _ => .accuse
  | .rebut _ _ _ => .rebut

/-- Whether the note is an ACCUSE or a REBUT: the kinds that use the note budget (R122). -/
def TxNote.budgeted (n : TxNote) : Bool := decide (n.content.kind = .accuse) || decide (n.content.kind = .rebut)

/-- How many notes hold slots of a pool. -/
def poolUse (buffer : List TxNote) (p : Pool) : Nat := (buffer.filter fun n => decide (n.pool = p)).length

/-- The number of slots of a pool (Table 7-1). -/
def poolSize : Pool → Nat
  | .beacon => 1
  | .rebut => 3
  | .accuse => 3
  | .shared => 9

/-- Whether a pool has a free slot. -/
def poolFree (buffer : List TxNote) (p : Pool) : Bool := decide (poolUse buffer p < poolSize p)

/-- The pool whose slot a note of a kind takes (R118): its own pool, else, for ACCUSE and REBUT, the shared pool; none if neither has
a free slot. -/
def placeFor (buffer : List TxNote) : NoteKind → Option Pool
  | .enrol => if poolFree buffer .beacon then some .beacon else none
  | .beacon => if poolFree buffer .beacon then some .beacon else none
  | .rebut => if poolFree buffer .rebut then some .rebut else if poolFree buffer .shared then some .shared else none
  | .accuse => if poolFree buffer .accuse then some .accuse else if poolFree buffer .shared then some .shared else none

/-- A note as it is queued: waiting, without a sequence number, attempt count 0 (R117). -/
def newNote (content : Content) (pool : Pool) : TxNote :=
  { content := content, pool := pool, state := .waiting, seq := none, attempts := 0, noRetry := false }

/-- Queues a note behind every note queued before it, where R118 finds a slot; without one nothing changes. -/
def State.enqueue (s : State) (content : Content) : State :=
  match placeFor s.xmt.buffer content.kind with
  | some p => s.setBuffer (s.xmt.buffer ++ [newNote content p])
  | none => s

/-- The beacon request of R124: a BEACON without content in the beacon slot, if it is free. -/
def State.queueBeacon (s : State) : State := s.enqueue (.beacon none)

/-- The ENROL request of R125: composed when queued, and not queued while the beacon slot is held. -/
def State.queueEnrol (s : State) : State := s.enqueue (.enrol s.ctl.serial s.ctl.role (s.ctl.digest.getD 0))

/-- Whether a note is an unbegun ACCUSE against a slot with a kind (R119, step 1). -/
def mergeTarget (a : Nat) (k : AccKind) (n : TxNote) : Bool :=
  match n.content with
  | .accuse a' k' _ _ => decide (a' = a) && decide (k' = k) && decide (n.state = .waiting)
  | .enrol _ _ _ | .beacon _ | .rebut _ _ _ => false

/-- The merge of a tag into an unbegun ACCUSE (R119, step 1). -/
def mergeTag (t : Half) (n : TxNote) : TxNote :=
  match n.content with
  | .accuse a k tags surplus =>
    if t ∈ tags then n
    else if tags.length < 6 then { n with content := .accuse a k (tags ++ [t]) surplus }
    else { n with content := .accuse a k tags (min 255 (surplus + 1)) }
  | .enrol _ _ _ | .beacon _ | .rebut _ _ _ => n

/-- Whether the merge of a tag loses the accusation to a surplus count held at 255 (R119, step 1). -/
def mergeLoses (t : Half) (n : TxNote) : Bool :=
  match n.content with
  | .accuse _ _ tags surplus => !decide (t ∈ tags) && decide (6 ≤ tags.length) && decide (255 ≤ surplus)
  | .enrol _ _ _ | .beacon _ | .rebut _ _ _ => false

/-- The request to announce an own accusation (R119); taken in RUNNING, in any other state not queued and without a flag. -/
def State.announce (s : State) (a : Nat) (k : AccKind) (t : Half) : State :=
  if s.ctl.station = .running then
    match s.xmt.buffer.findIdx? (mergeTarget a k) with
    | some i =>
      let merged := s.setBuffer (s.xmt.buffer.modify i (mergeTag t))
      if (s.xmt.buffer[i]?).any (mergeLoses t) then merged.latchFlag noteDropped else merged
    | none =>
      match placeFor s.xmt.buffer .accuse with
      | some _ => s.enqueue (.accuse a k [t] 0)
      | none => s.latchFlag noteDropped
  else s

/-- What entry to QUARANTINED makes of one buffered note (R93, R105, R126): ACCUSE and REBUT are discarded unless their attempt is
under way, and then they are not to be retried; the rest stays. -/
def quarantineNote (n : TxNote) : Option TxNote :=
  if n.budgeted then (if n.state = .underWay then some { n with noRetry := true } else none) else some n

/-- What leaving ENROLLING makes of one buffered note (R105): an ENROL is discarded unless its attempt is under way, and then it is not
to be retried. -/
def leaveEnrolNote (n : TxNote) : Option TxNote :=
  if n.content.kind = .enrol then (if n.state = .underWay then some { n with noRetry := true } else none) else some n

/-! ### Quarantine (R86, R90, R92) -/

/-- Entry to QUARANTINED, in the order of R90. -/
def State.enterQuarantined (c : ConfigRecord) (k : Trigger) (zones : Nat) (s : State) : State :=
  let s1 := { s with ctl := { s.ctl with station := .quarantined, latch := s.ctl.latch || decide (c.fence = FenceMode.enforce) } }
  let s2 := s1.post (.quarantine .entered k s1.ctl.latch zones)
  s2.setBuffer (s2.xmt.buffer.filterMap quarantineNote)

/-- A quarantine trigger taken in MUTE (R92). -/
def State.triggerInMute (c : ConfigRecord) (k : Trigger) (zones : Nat) (s : State) : State :=
  if c.fence = .enforce ∧ s.ctl.latch = false then
    ({ s with ctl := { s.ctl with latch := true } }).post (.quarantine .latchSet k true zones)
  else s

/-- The Station Controller takes a quarantine trigger (R90 to R92): RUNNING is left for QUARANTINED, ENROLLING holds the trigger over,
MUTE may set the latch, and QUARANTINED is unchanged. Taken at once when it is handed over: Log 9. -/
def State.takeTrigger (c : ConfigRecord) (k : Trigger) (zones : Nat) (s : State) : State :=
  match s.ctl.station with
  | .running => s.enterQuarantined c k zones
  | .enrolling => { s with ctl := { s.ctl with held := some { kind := k, zones := zones } } }
  | .mute _ => s.triggerInMute c k zones
  | .quarantined => s
  | .unconfigured => s

/-! ### Standings (R52 to R57) -/

/-- A change of a record's standing with its cause and its STANDING notice; nothing where the record holds that standing already
(R56, R57). -/
def State.changeStanding (x : Nat) (new : Standing) (cause : Cause) (s : State) : State :=
  let r := s.record x
  if r.standing = new then s
  else (s.setRecord x { r with standing := new, cause := some cause }).post (.standing x r.standing new cause)

/-- The standing an evaluation gives (R53, Table 3-2). -/
def newStanding (c : ConfigRecord) (old : Standing) (score z : Nat) : Standing :=
  match old with
  | .condemned => .condemned
  | .clear =>
    if c.tCondemn ≤ score ∧ c.quorum ≤ z then .condemned
    else if c.tSuspect ≤ score then .suspect else if c.tWatch ≤ score then .watched else .clear
  | .watched =>
    if c.tCondemn ≤ score ∧ c.quorum ≤ z then .condemned
    else if c.tSuspect ≤ score then .suspect else if score < c.tClear then .clear else .watched
  | .suspect =>
    if c.tCondemn ≤ score ∧ c.quorum ≤ z then .condemned
    else if score < c.tClear then .clear else if score < c.tWatch then .watched else .suspect

/-- The quorum-short flag at an evaluation (R55). -/
def shortOfQuorum (c : ConfigRecord) (score z : Nat) : Bool := decide (c.tCondemn ≤ score) && decide (z < c.quorum)

/-- One evaluation of a record's standing (R52 to R55), with the quarantine trigger where it condemns the own record (R67, R87). -/
def State.evaluate (c : ConfigRecord) (x : Nat) (s : State) : State :=
  let r := s.record x
  let z := independentZones c x r.witnesses
  let new := newStanding c r.standing r.score z
  let s1 := (s.setRecord x { r with quorumShort := shortOfQuorum c r.score z }).changeStanding x new .evidence
  if x = s.ownSlot ∧ new = .condemned ∧ r.standing ≠ .condemned then s1.takeTrigger c .evidence z else s1

/-- The reset of a record by a release or a replacement (R62, R64, R95): standing CLEAR, S 0, no witnesses, probation P, quorum-short
flag clear. Whether a change of standing posts a notice is the caller's. -/
def clearedRecord (c : ConfigRecord) (r : BoardRecord) : BoardRecord :=
  { r with score := 0, witnesses := [], probation := c.probation, quorumShort := false }

/-- Resets a record, with the change to CLEAR made by R56 and R57. -/
def State.clearRecord (c : ConfigRecord) (x : Nat) (cause : Cause) (s : State) : State :=
  (s.setRecord x (clearedRecord c (s.record x))).changeStanding x .clear cause

/-- A self-report of slot x (R58, R59). -/
def State.selfReport (x : Nat) (s : State) : State := s.changeStanding x .condemned .selfReport

/-! ### Evidence (R37 to R43) -/

/-- The weight of a kind (Table 2-1). -/
def weightOf (c : ConfigRecord) : EvidenceKind → Nat
  | .miss => c.wMiss
  | .corrupt => c.wCorrupt
  | .rebutted => c.wRebut
  | .babble => c.wBabble

/-- The kind of evidence that an accusation becomes. -/
def evidenceOf : AccKind → EvidenceKind
  | .miss => .miss
  | .corrupt => .corrupt

/-- The product of an item (R38, steps 1 to 4). -/
def product (c : ConfigRecord) (w a : Nat) (k : EvidenceKind) (n : Nat) (probation : Nat) : Nat :=
  let weight := weightOf c k
  let halved := if correlated c w a then max 1 (weight / 2) else weight
  let doubled := if 0 < probation then 2 * halved else halved
  doubled * n

/-- Epochs from one epoch number to a later one, modulo 65536 (00, 0.7). -/
def epochsSince (now before : Half) : Nat := (now - before).toNat

/-- Inserts a witness entry at its place by witness slot. -/
def insertWitness (w : Witness) : List Witness → List Witness
  | [] => [w]
  | v :: rest => if w.slot < v.slot then w :: v :: rest else v :: insertWitness w rest

/-- Whether, at an epoch, one entry has an older last application than another. -/
def olderThan (now : Half) (v w : Witness) : Bool := decide (epochsSince now w.epoch < epochsSince now v.epoch)

/-- The slot of the entry with the oldest last application, the lowest slot of those that tie (R41). -/
def oldestWitness (now : Half) : List Witness → Option Witness
  | [] => none
  | v :: rest =>
    match oldestWitness now rest with
    | some w => if olderThan now w v then some w else some v
    | none => some v

/-- The witness update of R41: refresh, add, or replace the oldest of eight. -/
def witnessUpdate (now : Half) (slot key : Nat) (ws : List Witness) : List Witness :=
  let w : Witness := { slot := slot, key := key, epoch := now }
  if ws.any (fun v => decide (v.slot = slot)) then ws.map fun v => if v.slot = slot then { v with epoch := now } else v
  else if ws.length < 8 then insertWitness w ws
  else
    match oldestWitness now ws with
    | some o => insertWitness w (ws.filter fun v => decide (v.slot ≠ o.slot))
    | none => [w]

/-- The record after an item of evidence has been applied to it (R38 to R41). -/
def appliedRecord (c : ConfigRecord) (now : Half) (w a : Nat) (k : EvidenceKind) (n : Nat) (r : BoardRecord) : BoardRecord :=
  { r with score := min 4095 (r.score + product c w a k n r.probation),
           witnesses := witnessUpdate now w (zoneKey c.zoneMask w) r.witnesses }

/-- Applies an item of evidence with witness w, accused a, kind k and count n (R38); an item whose witness or accused lies outside
1 to 24 is discarded (R26). -/
def State.applyItem (c : ConfigRecord) (w a : Nat) (k : EvidenceKind) (n : Nat) (s : State) : State :=
  if isSlot w && isSlot a then s.setRecord a (appliedRecord c s.evidenceEpoch w a k n (s.record a)) else s

/-- Applies an item and evaluates the accused record once (R42): a direct item (R43) or an early promotion (R31). An item that names
no board record is discarded (R26). -/
def State.applyAndEvaluate (c : ConfigRecord) (w a : Nat) (k : EvidenceKind) (n : Nat) (s : State) : State :=
  if isSlot w && isSlot a then (s.applyItem c w a k n).evaluate c a else s

/-! ### The pending accusation list (R27 to R36) -/

/-- The count of an entry: 1 for a tagged one (R32). -/
def Accusation.count (e : Accusation) : Nat :=
  match e.load with
  | .tagged _ => 1
  | .untagged n => n

/-- Whether an entry is the tagged entry of an accuser, an accused and a tag, whatever its kind (R28, R33). -/
def isTagged (accuser accused : Nat) (t : Half) (e : Accusation) : Bool :=
  decide (e.accuser = accuser) && decide (e.accused = accused) && decide (e.load = .tagged t)

/-- Whether an entry is the untagged entry of an accuser, an accused and a kind (R29). -/
def isUntagged (accuser accused : Nat) (k : AccKind) (e : Accusation) : Bool :=
  decide (e.accuser = accuser) && decide (e.accused = accused) && decide (e.kind = k) &&
    match e.load with
    | .tagged _ => false
    | .untagged _ => true

/-- The merge of a surplus into an untagged entry, its count held at 255 (R29). -/
def addSurplusTo (n : Nat) (e : Accusation) : Accusation :=
  match e.load with
  | .tagged _ => e
  | .untagged m => { e with load := .untagged (min 255 (m + n)) }

/-- Applies an entry as an item of evidence. -/
def State.applyEntry (c : ConfigRecord) (e : Accusation) (s : State) : State :=
  s.applyItem c e.accuser e.accused (evidenceOf e.kind) e.count

/-- Early promotion (R31): the oldest entry is applied, its accused evaluated, and the entry removed. -/
def State.promote (c : ConfigRecord) (s : State) : State :=
  match s.eng.accusations with
  | [] => s
  | e :: _ =>
    let s1 := s.applyAndEvaluate c e.accuser e.accused (evidenceOf e.kind) e.count
    s1.setAccusations s1.eng.accusations.tail

/-- Puts an entry at the tail, stamped with the engine's epoch number, after early promotion where the list is full (R27 to R29, R48). -/
def State.appendEntry (c : ConfigRecord) (accuser accused : Nat) (k : AccKind) (load : Load) (s : State) : State :=
  let s1 := if s.eng.accusations.length < 48 then s else s.promote c
  s1.setAccusations (s1.eng.accusations ++
    [{ accuser := accuser, accused := accused, kind := k, load := load, stamp := s1.evidenceEpoch }])

/-- The request to add a tagged entry (R28); discarded where a slot lies outside 1 to 24 (R26). -/
def State.addTagged (c : ConfigRecord) (accuser accused : Nat) (k : AccKind) (t : Half) (s : State) : State :=
  if isSlot accuser && isSlot accused then
    if s.eng.accusations.any (isTagged accuser accused t) then s else s.appendEntry c accuser accused k (.tagged t)
  else s

/-- The request to add a surplus of n accusations (R29); discarded where a slot lies outside 1 to 24 (R26). -/
def State.addSurplus (c : ConfigRecord) (accuser accused : Nat) (k : AccKind) (n : Nat) (s : State) : State :=
  if isSlot accuser && isSlot accused then
    if s.eng.accusations.any (isUntagged accuser accused k) then
      s.setAccusations (s.eng.accusations.map fun e => if isUntagged accuser accused k e then addSurplusTo n e else e)
    else s.appendEntry c accuser accused k (.untagged n)
  else s

/-- The REBUT request of the Evidence Engine (R77): rebutter x, accuser a, tag t, rebutted kind k. The PATH notice where the own slot is
a or x (R80), the removal of the tagged entry whatever its kind (R78), then REBUTTED against a (R79). A REBUT that names no board
record is discarded. -/
def State.takeRebut (c : ConfigRecord) (x a : Nat) (t : Half) (k : AccKind) (s : State) : State :=
  if isSlot x && isSlot a then
    let s1 := if s.ownSlot = a ∨ s.ownSlot = x then s.post (.path a x t k) else s
    let s2 := s1.setAccusations (s1.eng.accusations.filter fun e => !isTagged a x t e)
    s2.applyAndEvaluate c x a .rebutted 1
  else s

/-! ### Observations (R20) -/

/-- An observation goes to the Evidence Engine as a tagged entry with the own slot as accuser and, in RUNNING, to the Note Transmitter
(R20, R30). Neither hand-off waits for the other: which is first is a free value (Log 6). -/
def State.observe (c : ConfigRecord) (accused : Nat) (k : AccKind) (t : Half) (s : State) : State :=
  match s.ctl.station with
  | .running =>
    let s1 := { s with choices := s.choices + 1 }
    if Config.announceFirst s.choices then (s1.announce accused k t).addTagged c s1.ownSlot accused k t
    else (s1.addTagged c s1.ownSlot accused k t).announce accused k t
  | .quarantined => s.addTagged c s.ownSlot accused k t
  | .unconfigured | .enrolling | .mute _ => s

/-! ### The peer-condemnation quorum (R88, R89) -/

/-- Whether the own station distrusts a sender: its last beacon shows it quarantined, or its record is CONDEMNED here (R130). -/
def State.tainted (s : State) (x : Nat) : Bool :=
  (s.entry x).quarantined || decide ((s.record x).standing = .condemned)

/-- Whether a peer counts toward the quorum (R88). -/
def State.countsForQuorum (s : State) (x : Nat) : Bool :=
  decide (x ≠ s.ownSlot) && (s.entry x).condemnsMe && decide ((s.entry x).presence = .present) && (s.entry x).matched && !s.tainted x

/-- The distinct zone keys of the peers that count, the own zone key left out (R88). -/
def State.quorumKeys (c : ConfigRecord) (s : State) : List Nat :=
  (((slots.filter s.countsForQuorum).map (zoneKey c.zoneMask)).filter fun k => decide (k ≠ zoneKey c.zoneMask s.ownSlot)).dedup

/-- One evaluation of the peer-condemnation quorum (R88, R89). The count goes into the QUARANTINE notice as it is. Table 5-3 gives its
zones field as 0 to 8, but no rule bounds the count, which can pass 8 where more peers come to count between two evaluations: posting
the whole count is the model's choice, DESIGN CHOICE, Log 7. -/
def State.peerQuorum (c : ConfigRecord) (s : State) : State :=
  let z := (s.quorumKeys c).length
  if c.quorum ≤ z ∧ (s.record s.ownSlot).standing ≠ .condemned then
    (s.changeStanding s.ownSlot .condemned .peerQuorum).takeTrigger c .peerQuorum z
  else s

/-! ### Entry to MUTE (R153) -/

/-- The reason that goes with the detail of a MUTED notice. -/
def MuteDetail.reason : MuteDetail → MuteReason
  | .badStrap _ => .badStrap
  | .slotConflict _ => .slotConflict
  | .configMinority _ _ => .configMinority
  | .clockFault => .clockFault

/-- Entry to MUTE from ENROLLING, RUNNING or QUARANTINED, in the order of R153: the state; the transmit buffer emptied and any note cut
off (R106, R127), the tracker's work dropped (R23); the MUTED notice; and, leaving ENROLLING with the own record CONDEMNED, the held-over
trigger by R92. -/
def State.enterMute (c : ConfigRecord) (d : MuteDetail) (s : State) : State :=
  let previous := s.ctl.station
  let s1 := { s with
    ctl := { s.ctl with station := .mute d.reason, held := none },
    xmt := { s.xmt with buffer := [] },
    trk := Tracker.reset }
  let s2 := s1.post (.muted d (some previous) s1.ctl.latch)
  match previous, s.ctl.held with
  | .enrolling, some h => if s.ownCondemned then s2.triggerInMute c h.kind h.zones else s2
  | _, _ => s2

end Sys2Proof.Machine
end

