-- ==== Sys2Proof/Machine/Tracker.lean ====
section
/-! DEFINITION. The Tap Port's and the Exchange Tracker's operations (chapter 1): sample eligibility, the OET with its sampling level,
the answer list, the processing of one tap record, and the expiries of a class tick. -/

namespace Sys2Proof.Machine

/-! ### Sample eligibility (R7, R9) -/

/-- A mask with its lowest clear bit set as well; a mask without a clear bit stays. -/
def addLowestClear (m : Half) : Half := m ||| (m + 1)

/-- The level mask: the base mask with the L lowest of its clear bits set (R7). -/
def levelMask (base : Half) : Nat → Half
  | 0 => base
  | l + 1 => addLowestClear (levelMask base l)

/-- Whether a tag is eligible at a level: on every bit of the level mask it equals the sample match (R7). -/
def tagEligible (c : ConfigRecord) (level : Nat) (tag : Half) : Bool :=
  decide (tag &&& levelMask c.baseMask level = c.sampleMatch &&& levelMask c.baseMask level)

/-- The watch vector's bit number for a requester role and a responder role (Table 1-4). -/
def watchBit (requester responder : Role) : Nat := roleNumber requester * 4 + roleNumber responder

/-- Whether the watch vector tracks exchanges of a direction with a peer of a role (R9). -/
def watched (c : ConfigRecord) (own peer : Role) : Direction → Bool
  | .outbound => c.watch.getLsbD (watchBit own peer)
  | .inbound => c.watch.getLsbD (watchBit peer own)

/-- Whether a REQUEST that passes R8 is eligible (R9). -/
def State.requestEligible (c : ConfigRecord) (s : State) (r : TapEntry) : Bool :=
  tagEligible c s.trk.level r.tag && decide ((s.entry r.peer).presence ≠ .unseen) &&
    watched c s.ctl.role (s.entry r.peer).role r.dir

/-! ### The OET and the sampling level (R10 to R18) -/

/-- Whether an entry is the exchange of a direction, a peer slot and a tag (R12). -/
def isExchange (dir : Direction) (peer : Nat) (tag : Half) (e : OetEntry) : Bool :=
  decide (e.dir = dir) && decide (e.peer = peer) && decide (e.tag = tag)

/-- The sampling level after an insertion (R11, raise). -/
def raisedLevel (c : ConfigRecord) (occupancy level : Nat) : Nat := if c.high ≤ occupancy ∧ level < 4 then level + 1 else level

/-- The sampling level after a removal (R11, lower). -/
def loweredLevel (c : ConfigRecord) (occupancy level : Nat) : Nat := if occupancy ≤ c.low ∧ 0 < level then level - 1 else level

/-- Inserts an eligible REQUEST, or, with 64 entries held, refuses it with SAMPLING_SATURATED and the saturation mark (R10). -/
def State.insertExchange (c : ConfigRecord) (r : TapEntry) (s : State) : State :=
  if s.trk.oet.length < 64 then
    { s with trk := { s.trk with
        oet := s.trk.oet ++ [{ dir := r.dir, peer := r.peer, tag := r.tag, cls := r.cls, age := 0 }],
        level := raisedLevel c (s.trk.oet.length + 1) s.trk.level } }
  else ({ s with trk := { s.trk with satMark := true } }).latchFlag samplingSaturated

/-- Removes the first entry that a test picks, and reassesses the sampling level (R11). -/
def State.removeExchange (c : ConfigRecord) (p : OetEntry → Bool) (s : State) : State :=
  let rest := s.trk.oet.eraseP p
  { s with trk := { s.trk with oet := rest, level := loweredLevel c rest.length s.trk.level } }

/-- Processing of a REQUEST record (R8 to R10). -/
def State.processRequest (c : ConfigRecord) (r : TapEntry) (s : State) : State :=
  if r.good && decide (timeoutCode c r.cls ≠ 0) && !s.trk.oet.any (isExchange r.dir r.peer r.tag) && s.requestEligible c r then
    s.insertExchange c r
  else s

/-- The direction of the request that a response of a direction answers (R16). -/
def Direction.opposite : Direction → Direction
  | .outbound => .inbound
  | .inbound => .outbound

/-- The slot that owes the response of an entry: the peer's for OUTBOUND, the own slot for INBOUND (R15, R16). -/
def responder (own : Nat) (e : OetEntry) : Nat :=
  match e.dir with
  | .outbound => e.peer
  | .inbound => own

/-- The answer list with an entry appended; the oldest of 128 is dropped (R21). -/
def appendAnswer (l : List Answer) (a : Answer) : List Answer := if l.length < 128 then l ++ [a] else l.tail ++ [a]

/-- An outbound RESPONSE offered to the answer list (R21). -/
def State.offerAnswer (c : ConfigRecord) (r : TapEntry) (s : State) : State :=
  if r.dir = .outbound ∧ timeoutCode c r.cls ≠ 0 ∧ tagEligible c 0 r.tag then
    { s with trk := { s.trk with answers := appendAnswer s.trk.answers { requester := r.peer, tag := r.tag, good := r.good } } }
  else s

/-- A RESPONSE against the OET (R16, R18). -/
def State.matchResponse (c : ConfigRecord) (r : TapEntry) (s : State) : State :=
  match s.trk.oet.find? (isExchange r.dir.opposite r.peer r.tag) with
  | some e =>
    let s1 := s.removeExchange c (isExchange r.dir.opposite r.peer r.tag)
    if r.good then s1 else s1.observe c (responder s.ownSlot e) .corrupt e.tag
  | none => s

/-- Processing of a RESPONSE record (R16, R18, R21). -/
def State.processResponse (c : ConfigRecord) (r : TapEntry) (s : State) : State := (s.matchResponse c r).offerAnswer c r

/-- Processing of a CANCEL record (R17, R18). -/
def State.processCancel (c : ConfigRecord) (r : TapEntry) (s : State) : State :=
  if s.trk.oet.any (isExchange r.dir r.peer r.tag) then s.removeExchange c (isExchange r.dir r.peer r.tag) else s

/-- Processing of one record of the tap FIFO (R5). No record of kind OTHER is ever stored (R3). -/
def State.processRecord (c : ConfigRecord) (r : TapEntry) (s : State) : State :=
  match r.kind with
  | .request => s.processRequest c r
  | .response => s.processResponse c r
  | .cancel => s.processCancel c r
  | .other => s

/-- The answer-list lookup: the frame check of the newest entry for a requester and a tag (R22). -/
def lookupAnswer (l : List Answer) (requester : Nat) (tag : Half) : Option Bool :=
  (l.reverse.find? fun a => decide (a.requester = requester) && decide (a.tag = tag)).map Answer.good

/-! ### Class ticks and expiry (R13 to R15) -/

/-- Whether a class of a timeout code ticks at a millisecond count (R13). -/
def ticksAt (c : ConfigRecord) (count : Half) (cls : Nat) : Bool :=
  decide (timeoutCode c cls ≠ 0) && decide (count.toNat % 2 ^ (timeoutCode c cls - 1) = 0)

/-- The table after a tick of one class: its entries are older by 1 (R14). -/
def agedOet (cls : Nat) (oet : List OetEntry) : List OetEntry :=
  oet.map fun e => if e.cls = cls then { e with age := e.age + 1 } else e

/-- Whether an entry's age has reached 4 and its expiry is to be carried out (R14). -/
def expiring (e : OetEntry) : Bool := decide (4 ≤ e.age)

/-- Takes the tick of one class. -/
def State.takeClassTick (cls : Fin 4) (s : State) : State :=
  { s with trk := { s.trk with oet := agedOet cls.val s.trk.oet },
           due := { s.due with classTicks := s.due.classTicks.filter fun k => decide (k ≠ cls) } }

/-- The expiry of the oldest entry whose age has reached 4 (R14, R15): removed, the level reassessed, and a MISS observed unless the
station is blind. -/
def State.expireOldest (c : ConfigRecord) (s : State) : State :=
  match s.trk.oet.find? expiring with
  | some e =>
    let s1 := s.removeExchange c expiring
    if 0 < s1.trk.blind then s1 else s1.observe c (responder s.ownSlot e) .miss e.tag
  | none => s

/-- n expiries, one after another. -/
def State.expireTimes (c : ConfigRecord) : Nat → State → State
  | 0, s => s
  | n + 1, s => State.expireTimes c n (s.expireOldest c)

/-- Carries out every expiry of a tick that has been taken (R14). -/
def State.expireAll (c : ConfigRecord) (s : State) : State := s.expireTimes c (s.trk.oet.countP expiring)

/-! ### The Tap Port (R1 to R4) -/

/-- Whether the Tap Port examines records: out of reset, in RUNNING or QUARANTINED (R1, R156). -/
def State.examinesTap (s : State) : Bool :=
  !s.ctl.inReset && (decide (s.ctl.station = .running) || decide (s.ctl.station = .quarantined))

/-- A checked record at the tap FIFO: appended, or, with 32 held, discarded with TAP_OVERRUN and a blind period (R4, R6). -/
def State.storeTap (e : TapEntry) (s : State) : State :=
  if s.trk.tapFifo.length < 32 then { s with trk := { s.trk with tapFifo := s.trk.tapFifo ++ [e] } }
  else ({ s with trk := { s.trk with blind := 2 } }).latchFlag tapOverrun

/-- The bytes of one tap frame (R1 to R4): fewer than six are an incomplete record; of more, the bytes after the sixth are ignored. -/
def State.takeTapFrame (bytes : List Byte) (s : State) : State :=
  if !s.examinesTap then s
  else if bytes.length < 6 then s.latchFlag tapGarbled
  else if !tapCheck bytes then s.latchFlag tapGarbled
  else
    match tapEntry s.ownSlot bytes with
    | some e => s.storeTap e
    | none => s

end Sys2Proof.Machine
end

