-- ==== Sys2Proof/Machine/Boundary.lean ====
section
/-! DEFINITION. The millisecond count, the epoch clock and every block's work at an epoch boundary (R6, R13, R47, R122, R124, R139,
R141, R150 to R152). -/

namespace Sys2Proof.Machine

/-! ### The Evidence Engine's five steps (Table 2-7) -/

/-- The score after decay: S - ⌈S / 2^d⌉ (R46). -/
def decayed (d score : Nat) : Nat := score - (score + 2 ^ d - 1) / 2 ^ d

/-- Step 1: every score decays (R46). -/
def State.decayScores (c : ConfigRecord) (s : State) : State :=
  s.mapRecords fun r => { r with score := decayed c.decay r.score }

/-- Whether a witness entry has reached the witness expiry (R44). -/
def witnessExpired (c : ConfigRecord) (now : Half) (w : Witness) : Bool := decide (c.expiry ≤ epochsSince now w.epoch)

/-- Step 2: expired witness entries are removed (R44). -/
def State.expireWitnesses (c : ConfigRecord) (s : State) : State :=
  s.mapRecords fun r => { r with witnesses := r.witnesses.filter fun w => !witnessExpired c s.ctl.epoch w }

/-- Whether an entry is due at the boundary that began an epoch: its stamp plus 2, modulo 65536 (R32). -/
def isDue (now : Half) (e : Accusation) : Bool := decide (e.stamp + 2 = now)

/-- Step 3: every due entry is applied, oldest first, and removed (R32). -/
def State.applyDue (c : ConfigRecord) (s : State) : State :=
  let s1 := (s.eng.accusations.filter (isDue s.ctl.epoch)).foldl (fun t e => t.applyEntry c e) s
  s1.setAccusations (s1.eng.accusations.filter fun e => !isDue s.ctl.epoch e)

/-- Step 4: every record is evaluated once, in slot order (R52). -/
def State.evaluateAll (c : ConfigRecord) (s : State) : State := slots.foldl (fun t x => t.evaluate c x) s

/-- Step 5: every probation remaining above 0 is lowered by 1 (R66). -/
def State.lowerProbations (s : State) : State := s.mapRecords fun r => { r with probation := r.probation - 1 }

/-- Marks how far the Evidence Engine's work has gone. -/
def State.setEvidenceDue (n : Nat) (s : State) : State := { s with due := { s.due with evidence := n } }

/-- Carries out the steps of Table 2-7 that are still to do before step k, with k from 2; k = 6 completes the work. The work is marked
first, so that its own steps go by the new epoch number (R41, R47). -/
def State.evidenceUpTo (c : ConfigRecord) (k : Nat) (s : State) : State :=
  let p := s.due.evidence
  let s0 := s.setEvidenceDue (if 6 ≤ k then 0 else k)
  let s1 := if p ≤ 1 ∧ 1 < k then s0.decayScores c else s0
  let s2 := if p ≤ 2 ∧ 2 < k then s1.expireWitnesses c else s1
  let s3 := if p ≤ 3 ∧ 3 < k then s2.applyDue c else s2
  let s4 := if p ≤ 4 ∧ 4 < k then s3.evaluateAll c else s3
  if p ≤ 5 ∧ 5 < k then s4.lowerProbations else s4

/-! ### The Note Receiver's four steps (R141) -/

/-- Applies one change to every roster entry. -/
def State.mapRoster (s : State) (f : RosterEntry → RosterEntry) : State :=
  { s with rcv := { s.rcv with roster := s.rcv.roster.map f } }

/-- Step 1: every notes-accepted count becomes 0. -/
def State.clearCounts (s : State) : State := s.mapRoster fun e => { e with accepted := 0 }

/-- Step 2: every mute remaining above 0 is lowered by 1. -/
def State.lowerMutes (s : State) : State := s.mapRoster fun e => { e with mute := e.mute - 1 }

/-- The lapse counter of one slot (R139): a PRESENT peer's advances by 1, and at L the peer becomes LAPSED with a PRESENCE notice. -/
def State.advanceLapse (c : ConfigRecord) (x : Nat) (s : State) : State :=
  let e := s.entry x
  if x ≠ s.ownSlot ∧ e.presence = .present then
    if c.lapse ≤ e.lapse + 1 then
      (s.setEntry x { e with lapse := e.lapse + 1, presence := .lapsed }).post (.presence x .present .lapsed)
    else s.setEntry x { e with lapse := e.lapse + 1 }
  else s

/-- Step 3: lapse counters advance and lapses are marked, in slot order (R139, Log 15). -/
def State.advanceLapses (c : ConfigRecord) (s : State) : State := slots.foldl (fun t x => t.advanceLapse c x) s

/-- Marks how far the Note Receiver's work has gone. -/
def State.setReceiverDue (n : Nat) (s : State) : State := { s with due := { s.due with receiver := n } }

/-- Carries out the steps of R141 that are still to do before step k; k = 5 completes the work. -/
def State.receiverUpTo (c : ConfigRecord) (k : Nat) (s : State) : State :=
  let p := s.due.receiver
  let s1 := if p ≤ 1 ∧ 1 < k then s.clearCounts else s
  let s2 := if p ≤ 2 ∧ 2 < k then s1.lowerMutes else s1
  let s3 := if p ≤ 3 ∧ 3 < k then s2.advanceLapses c else s2
  let s4 := if p ≤ 4 ∧ 4 < k then s3.peerQuorum c else s3
  s4.setReceiverDue (if 5 ≤ k then 0 else k)

/-! ### Whole works, each taken where it is due -/

/-- The Exchange Tracker's boundary work: the blind-period counter falls by 1 (R6). -/
def State.blindWork (s : State) : State :=
  if s.due.blind then
    { s with trk := { s.trk with blind := s.trk.blind - 1 }, due := { s.due with blind := false } }
  else s

/-- The Evidence Engine's boundary work (R47). -/
def State.evidenceWork (c : ConfigRecord) (s : State) : State := if 1 ≤ s.due.evidence then s.evidenceUpTo c 6 else s

/-- The Note Receiver's boundary work (R141). -/
def State.receiverWork (c : ConfigRecord) (s : State) : State := if 1 ≤ s.due.receiver then s.receiverUpTo c 5 else s

/-- The Note Transmitter's boundary work: the budget is set to B (R122) and a beacon queued in RUNNING or QUARANTINED (R124). -/
def State.transmitterWork (c : ConfigRecord) (s : State) : State :=
  if s.due.transmitter then
    let s1 := { s with xmt := { s.xmt with budget := c.budget }, due := { s.due with transmitter := false } }
    if s1.ctl.station = .running ∨ s1.ctl.station = .quarantined then s1.queueBeacon else s1
  else s

/-- The number of PRESENT peers whose digest match is as given (R152). -/
def State.peerCount (s : State) (matched : Bool) : Nat :=
  (slots.filter fun x =>
    decide (x ≠ s.ownSlot) && decide ((s.entry x).presence = .present) && ((s.entry x).matched == matched)).length

/-- The trigger that a cause of the own record stands for (R91). -/
def causeTrigger : Option Cause → Trigger
  | some .peerQuorum => .peerQuorum
  | some .evidence | some .selfReport | some .release | some .replacement | none => .evidence

/-- The buffer on leaving ENROLLING for RUNNING or QUARANTINED: a waiting ENROL is discarded (R105), then a beacon queued (R124). -/
def State.leaveEnrolling (s : State) : State := (s.setBuffer (s.xmt.buffer.filterMap leaveEnrolNote)).queueBeacon

/-- The decision at the end of enrolment (R152, R91). -/
def State.endEnrolment (c : ConfigRecord) (s : State) : State :=
  let mismatched := s.peerCount false
  let matched := s.peerCount true
  if matched < mismatched then s.enterMute c (.configMinority mismatched matched)
  else
    let s1 := { s with ctl := { s.ctl with held := none } }
    if s.ownCondemned then
      let h := s.ctl.held.getD { kind := causeTrigger (s.record s.ownSlot).cause, zones := 0 }
      (s1.enterQuarantined c h.kind h.zones).leaveEnrolling
    else if s.ctl.latch then (s1.enterQuarantined c .restored 0).leaveEnrolling
    else ({ s1 with ctl := { s1.ctl with station := .running } }).leaveEnrolling

/-- The Station Controller's enrolment step at a boundary (R151): the period count advances; an ENROL is asked for at counts 1 to 3, and
at 4 the period ends (R152). -/
def State.enrolmentWork (c : ConfigRecord) (s : State) : State :=
  if s.due.enrolment ∧ s.ctl.station = .enrolling then
    let s1 := { s with ctl := { s.ctl with enrolCount := s.ctl.enrolCount + 1 }, due := { s.due with enrolment := false } }
    if s1.ctl.enrolCount < 4 then s1.queueEnrol else s1.endEnrolment c
  else { s with due := { s.due with enrolment := false } }

/-! ### The clock (R13, R150) -/

/-- The epoch length in milliseconds (R150). -/
def epochLength (c : ConfigRecord) : Nat := 64 * 2 ^ c.epochCode

/-- The epoch boundary (R150): the epoch number advances, and every block that works at a boundary is told. -/
def State.crossBoundary (s : State) : State :=
  { s with
    ctl := { s.ctl with epoch := s.ctl.epoch + 1 },
    due := { s.due with boundary := false, blind := true, evidence := 1, receiver := 1, transmitter := true,
                        enrolment := decide (s.ctl.station = .enrolling) } }

/-- The tick of one class with its expiries, where it is still due. -/
def State.classTickWork (c : ConfigRecord) (cls : Fin 4) (s : State) : State :=
  if cls ∈ s.due.classTicks then (s.takeClassTick cls).expireAll c else s

/-- Every class tick that is due, with its expiries, in class order. -/
def State.allClassTicks (c : ConfigRecord) (s : State) : State := s.due.classTicks.foldl (fun t k => t.classTickWork c k) s

/-- The 1 ms tick itself: the count advances, and the class ticks and the epoch boundary that fall at it become due (R13, R150). -/
def State.advanceCount (c : ConfigRecord) (s : State) : State :=
  let count := s.ctl.msCount + 1
  { s with
    ctl := { s.ctl with msCount := count },
    due := { s.due with classTicks := ([0, 1, 2, 3] : List (Fin 4)).filter fun k => ticksAt c count k.val,
                        boundary := decide (count.toNat % epochLength c = 0) } }

end Sys2Proof.Machine
end

