-- ==== Sys2Proof/Machine/Reception.lean ====
section
/-! DEFINITION. The Note Receiver (chapters 6 and 8) and the rebuttal path (chapter 4): what a note that the bus receiver has framed
does. -/

namespace Sys2Proof.Machine

/-! ### Framing (R106, R108) -/

/-- Whether a note of the station is under way. -/
def State.sending (s : State) : Bool := s.xmt.buffer.any fun n => decide (n.state = .underWay)

/-- Whether the bus receiver listens to the line: out of reset and not in UNCONFIGURED (R106, R132, R156). -/
def State.listens (s : State) : Bool := !s.ctl.inReset && decide (s.ctl.station ≠ .unconfigured)

/-- Whether the bus receiver takes a note: it listens, has counted an idle since the last note, and the station is not sending
(R106, R108). -/
def State.hears (s : State) : Bool := s.listens && s.rcv.rxReady && !s.sending

/-- The end of a note on the line: the idle count starts again, and no note is taken before the next idle (R98, R108). -/
def State.lineBusy (s : State) : State := { s with rcv := { s.rcv with idleCount := 0, rxReady := false } }

/-- Twelve recessive bit times counted (R98): the line is idle, and the receiver takes the next note (R108). -/
def State.lineIdle (s : State) : State := { s with rcv := { s.rcv with idleCount := 12, rxReady := true } }

/-- A received note is discarded for a framing error, a bad note check or malformation (R108). -/
def State.discardGarbled (s : State) : State := s.lineBusy.latchFlag rxGarbled

/-- An incomplete note is discarded by the line's going idle (R108): 12 recessive bit times have been counted and no dominant level
stands after them (R98), so the line is idle in the state left, whether BUS_IDLE is taken before the discard or after it. DEDUCED,
Log 26. -/
def State.discardIncomplete (s : State) : State := s.lineIdle.latchFlag rxGarbled

/-! ### Own-slot conflict (R136) -/

/-- The first conflict found on a slot since reset sets the entry's conflict-seen flag and posts a SLOT_CONFLICT notice; later ones do
nothing (R135, R136). -/
def State.noteConflict (x : Nat) (kept : Word) (refused : Refused) (s : State) : State :=
  if (s.entry x).conflictSeen then s
  else (s.setEntry x { s.entry x with conflictSeen := true }).post (.slotConflict x kept refused)

/-- A lost own-slot conflict (R153): MUTE(SLOT_CONFLICT) from ENROLLING, RUNNING or QUARANTINED, and nothing in other states. -/
def State.loseConflict (c : ConfigRecord) (kept : Word) (s : State) : State :=
  match s.ctl.station with
  | .enrolling => s.enterMute c (.slotConflict kept)
  | .running => s.enterMute c (.slotConflict kept)
  | .quarantined => s.enterMute c (.slotConflict kept)
  | .unconfigured => s
  | .mute _ => s

/-- An ENROL or BEACON that bears the own slot (R136). -/
def State.ownSlotIdentity (c : ConfigRecord) (serial : Word) (s : State) : State :=
  if serial = s.ctl.serial then s
  else if serial.toNat < s.ctl.serial.toNat then s.noteConflict s.ownSlot s.ctl.serial (.serial serial)
  else (s.noteConflict s.ownSlot serial (.serial s.ctl.serial)).loseConflict c serial

/-- An ACCUSE or REBUT that bears the own slot (R136). -/
def State.ownSlotFinding (tag : Half) (s : State) : State := s.noteConflict s.ownSlot s.ctl.serial (.tag tag)

/-! ### Serial handling of ENROL and BEACON (R131 to R135, R137, R138) -/

/-- The comparison of a peer's digest with the own digest (R137). -/
def State.compareDigest (x : Nat) (digest : Half) (s : State) : State :=
  let e := s.entry x
  let m := decide (s.ctl.digest = some digest)
  if e.matched = m then s else (s.setEntry x { e with matched := m }).post (.mismatch x m digest)

/-- The entry becomes PRESENT with lapse counter 0, with a PRESENCE notice where it was not PRESENT (R133). -/
def State.refreshPresence (x : Nat) (s : State) : State :=
  let e := s.entry x
  let s1 := s.setEntry x { e with lapse := 0, presence := .present }
  if e.presence = .present then s1 else s1.post (.presence x e.presence .present)

/-- The entry of a slot whose station has changed (R134, steps 1 and 2): serial and role taken, PRESENT, counters and flags cleared, the
conflict-seen flag kept. The note's number, set in step 1 of R131, becomes absent here, in its step 2. -/
def changedEntry (e : RosterEntry) (serial : Word) (role : Role) : RosterEntry :=
  { e with serial := serial, role := role, presence := .present, lapse := 0, accepted := 0, mute := 0, lastSeq := none,
           quarantined := false, saturated := false, condemnsMe := false }

/-- An order choice has been made. -/
def State.nextChoice (s : State) : State := { s with choices := s.choices + 1 }

/-- The count of a note accepted, and the babble test (R131, step 3; R140). -/
def State.countAccepted (c : ConfigRecord) (x : Nat) (s : State) : State :=
  let e := s.entry x
  let s1 := s.setEntry x { e with accepted := min 256 (e.accepted + 1) }
  if e.accepted = c.babble then
    (s1.setEntry x { s1.entry x with mute := 2 }).applyAndEvaluate c s1.ownSlot x .babble 1
  else s1

/-- What a BEACON brings beside its identity: the flags and the condemned list. -/
structure BeaconView where
  quarantined : Bool
  saturated : Bool
  condemned : List Byte
  deriving DecidableEq, Repr

/-- The content of an accepted BEACON (R138): the flags, the condemns-me flag, the self-report, the peer quorum. An ENROL brings none and
changes none of them (R133). -/
def State.takeView (c : ConfigRecord) (x : Nat) (view : Option BeaconView) (s : State) : State :=
  match view with
  | none => s
  | some v =>
    let s1 := s.setEntry x { s.entry x with quarantined := v.quarantined, saturated := v.saturated,
                                            condemnsMe := v.condemned.any fun b => decide (b.toNat = s.ownSlot) }
    (if v.quarantined then s1.selfReport x else s1).peerQuorum c

/-- A replacement of slot x, handed to the Evidence Engine (R35, R64). -/
def State.replaceBoard (c : ConfigRecord) (x : Nat) (s : State) : State :=
  let s1 := s.setAccusations (s.eng.accusations.filter fun e => decide (e.accuser ≠ x) && decide (e.accused ≠ x))
  s1.clearRecord c x .replacement

/-- A first enrolment (R133, serial 0). -/
def State.firstEnrolment (c : ConfigRecord) (x : Nat) (seq : Byte) (serial : Word) (role : Role) (digest : Half)
    (view : Option BeaconView) (s : State) : State :=
  let s1 := s.setEntry x { s.entry x with serial := serial, role := role, lastSeq := some seq }
  ((((s1.compareDigest x digest).refreshPresence x).takeView c x view)).countAccepted c x

/-- A refresh from the same serial (R133); a retry of a note already taken is not counted again (R131). -/
def State.sameSerial (c : ConfigRecord) (x : Nat) (seq : Byte) (role : Role) (digest : Half) (view : Option BeaconView) (s : State) :
    State :=
  let retry := decide ((s.entry x).lastSeq = some seq)
  let s1 := s.setEntry x { s.entry x with role := role, lastSeq := some seq }
  let s2 := ((s1.compareDigest x digest).refreshPresence x).takeView c x view
  if retry then s2 else s2.countAccepted c x

/-- A replacement (R134). -/
def State.replacement (c : ConfigRecord) (x : Nat) (serial : Word) (role : Role) (digest : Half) (view : Option BeaconView) (s : State) :
    State :=
  let e := s.entry x
  let s1 := s.setEntry x (changedEntry e serial role)
  let s2 := (s1.post (.replaced x e.serial serial)).replaceBoard c x
  ((s2.compareDigest x digest).takeView c x view).countAccepted c x

/-- A slot conflict won by the note's greater serial (R135): the entry switches, the board record stays. Which of the SLOT_CONFLICT notice
and the digest comparison comes first is free (Log 8). That it stands before the notices of the BEACON's content (STANDING by
self-report, STANDING and QUARANTINE by the peer quorum), an order R135 does not give either, is the model's choice: DESIGN CHOICE,
Log 8. -/
def State.switchStation (c : ConfigRecord) (x : Nat) (serial : Word) (role : Role) (digest : Half) (view : Option BeaconView)
    (s : State) : State :=
  let e := s.entry x
  let s1 := (s.setEntry x (changedEntry e serial role)).nextChoice
  let s2 :=
    if Config.conflictNoticeFirst s.choices then (s1.noteConflict x serial (.serial e.serial)).compareDigest x digest
    else (s1.compareDigest x digest).noteConflict x serial (.serial e.serial)
  (s2.takeView c x view).countAccepted c x

/-- An ENROL or BEACON from a peer slot, by the entry's serial and presence (R133). -/
def State.peerIdentity (c : ConfigRecord) (x : Nat) (seq : Byte) (serial : Word) (role : Role) (digest : Half)
    (view : Option BeaconView) (s : State) : State :=
  let e := s.entry x
  if e.serial = 0 then s.firstEnrolment c x seq serial role digest view
  else if e.serial = serial then s.sameSerial c x seq role digest view
  else if e.presence = .lapsed then s.replacement c x serial role digest view
  else if e.serial.toNat < serial.toNat then s.switchStation c x serial role digest view
  else s.noteConflict x e.serial (.serial serial)

/-- An ENROL or BEACON that passed the note check, through checks 2 to 4 of Table 8-2; without a stored record every note is discarded
(R132). -/
def State.takeIdentity (sender : BitVec 5) (seq : Byte) (serial : Word) (role : Role) (digest : Half) (view : Option BeaconView)
    (s : State) : State :=
  match s.ctl.config with
  | none => s
  | some c =>
    if !isSlot sender.toNat then s
    else if sender.toNat = s.ownSlot then s.ownSlotIdentity c serial
    else s.peerIdentity c sender.toNat seq serial role digest view

/-! ### ACCUSE and REBUT (R130, R131) -/

/-- Whether check 5 of Table 8-2 lets an ACCUSE or REBUT of a peer slot pass. -/
def State.acceptsFinding (s : State) (x : Nat) (tag : Half) (seq : Byte) : Bool :=
  let e := s.entry x
  decide (e.serial ≠ 0) && decide (tag = serialTag e.serial) && e.matched && decide (e.mute = 0) && !s.tainted x &&
    !decide (e.lastSeq = some seq)

/-- Step 1 of R131. -/
def State.setSequence (x : Nat) (seq : Byte) (s : State) : State := s.setEntry x { s.entry x with lastSeq := some seq }

/-- The tags of a note without repeats, in the order in which they first stand (R72). -/
def distinctTags : List Half → List Half → List Half
  | _, [] => []
  | seen, t :: rest => if t ∈ seen then distinctTags seen rest else t :: distinctTags (t :: seen) rest

/-- A REBUT offered to the Note Transmitter (R74, R120): queued and given to the own Evidence Engine at once, or dropped with NOTE_DROPPED
latched; in a state other than RUNNING neither. -/
def State.offerRebut (c : ConfigRecord) (a : Nat) (k : AccKind) (t : Half) (s : State) : State :=
  if s.ctl.station = .running then
    match placeFor s.xmt.buffer .rebut with
    | some _ => (s.enqueue (.rebut a t k)).takeRebut c s.ownSlot a t k
    | none => s.latchFlag noteDropped
  else s

/-- One lookup of the rebuttal path and its outcome (R73, Table 4-1). The path acts in RUNNING only (R72, R75): elsewhere a REBUT is not
offered. -/
def State.lookupAndRebut (c : ConfigRecord) (a : Nat) (k : AccKind) (t : Half) (s : State) : State :=
  if lookupAnswer s.trk.answers a t = some true then s.offerRebut c a k t else s

/-- One request of an accepted ACCUSE's run, carried out whole. -/
def State.carryOut (c : ConfigRecord) (r : Request) (s : State) : State :=
  match r with
  | .addTagged accuser accused k t => s.addTagged c accuser accused k t
  | .addSurplus accuser accused k n => s.addSurplus c accuser accused k n
  | .lookup accuser k t => s.lookupAndRebut c accuser k t
  | .count sender => s.countAccepted c sender

/-- Requests carried out one after another. -/
def State.carryOutAll (c : ConfigRecord) (run : List Request) (s : State) : State := run.foldl (fun t r => t.carryOut c r) s

/-- The run of an accepted ACCUSE (R30, R72, R131): one addition for each tag in order, one for a surplus count above 0, then, where the
own slot is accused, one lookup for each distinct tag, and at last the count. -/
def accuseRun (own : Nat) (n : AccuseNote) : List Request :=
  n.tags.map (.addTagged n.sender.toNat n.accused.toNat n.kind) ++
  (if n.surplus = 0 then [] else [.addSurplus n.sender.toNat n.accused.toNat n.kind n.surplus.toNat]) ++
  (if n.accused.toNat = own then (distinctTags [] n.tags).map (.lookup n.sender.toNat n.kind) else []) ++
  [.count n.sender.toNat]

/-- Begins a run: its requests are carried out, but for the last ones that the next reading finds still to be carried out (R50, Log 25). -/
def State.beginRun (c : ConfigRecord) (run : List Request) (s : State) : State :=
  let now := run.length - s.overlaps.headD 0
  let s1 := ({ s with overlaps := s.overlaps.tail }).carryOutAll c (run.take now)
  { s1 with due := { s1.due with run := run.drop now } }

/-- An accepted ACCUSE (R131): the sequence, then its run. -/
def State.acceptAccuse (c : ConfigRecord) (n : AccuseNote) (s : State) : State :=
  (s.setSequence n.sender.toNat n.seq).beginRun c (accuseRun s.ownSlot n)

/-- An accepted REBUT (R131, R77). -/
def State.acceptRebut (c : ConfigRecord) (n : RebutNote) (s : State) : State :=
  let x := n.sender.toNat
  ((s.setSequence x n.seq).takeRebut c x n.accuser.toNat n.tag n.kind).countAccepted c x

/-- An ACCUSE through checks 2 to 6 of Table 8-2. -/
def State.takeAccuse (n : AccuseNote) (s : State) : State :=
  match s.ctl.config with
  | none => s
  | some c =>
    if !isSlot n.sender.toNat then s
    else if n.sender.toNat = s.ownSlot then s.ownSlotFinding n.serialTag
    else if s.acceptsFinding n.sender.toNat n.serialTag n.seq then s.acceptAccuse c n else s

/-- A REBUT through checks 2 to 6 of Table 8-2. -/
def State.takeRebutNote (n : RebutNote) (s : State) : State :=
  match s.ctl.config with
  | none => s
  | some c =>
    if !isSlot n.sender.toNat then s
    else if n.sender.toNat = s.ownSlot then s.ownSlotFinding n.serialTag
    else if s.acceptsFinding n.sender.toNat n.serialTag n.seq then s.acceptRebut c n else s

/-! ### A note as received -/

/-- A note that the bus receiver has framed: discarded where it is malformed (R109), else judged by its kind. -/
def State.takeNote (n : Note) (s : State) : State :=
  if !s.hears then s
  else if !n.wellFormed then s.discardGarbled
  else
    match n with
    | .enrol e => s.lineBusy.takeIdentity e.sender e.seq e.serial e.role e.digest none
    | .beacon b =>
      s.lineBusy.takeIdentity b.sender b.seq b.serial b.role b.digest
        (some { quarantined := b.quarantined, saturated := b.saturated, condemned := b.condemned })
    | .accuse a => s.lineBusy.takeAccuse a
    | .rebut r => s.lineBusy.takeRebutNote r

/-- A reception judged by R108 to R110. Bytes that reach the note's end are judged there, however the reception went on. -/
def State.takeReception (r : Reception) (s : State) : State :=
  if !s.hears then s
  else
    match judge r.bytes, noteEnded r.bytes, r.ending with
    | some n, _, _ => s.takeNote n
    | none, true, _ => s.discardGarbled
    | none, false, .dominantStop => s.discardGarbled
    | none, false, .lineIdle => s.discardIncomplete

end Sys2Proof.Machine
end

