-- ==== Sys2Proof/Machine/Sending.lean ====
section
/-! DEFINITION. The bus transmitter (R99 to R105, R111, R114, R123): choosing a note, beginning and ending its attempts. -/

namespace Sys2Proof.Machine

/-- Whether a note's kind may begin an attempt in a station state (Table 6-1). -/
def permitted (st : Station) (k : NoteKind) : Bool :=
  match st with
  | .enrolling => decide (k = .enrol)
  | .running => decide (k ≠ .enrol)
  | .quarantined => decide (k = .beacon)
  | .unconfigured => false
  | .mute _ => false

/-- Whether a note is a candidate of an urgency (R123): not begun, permitted, and with budget where it needs budget. -/
def State.candidate (s : State) (urgency : BitVec 2) (n : TxNote) : Bool :=
  decide (n.state = .waiting) && decide (urgencyOf n.content.kind = urgency) && permitted s.ctl.station n.content.kind &&
    (!n.budgeted || decide (0 < s.xmt.budget))

/-- The place of the note that the next attempt is for (R104, R123): the retry head, else the candidate of lowest urgency value that is
first in queue order. -/
def State.nextNote (s : State) : Option Nat :=
  match s.xmt.buffer.findIdx? (fun n => decide (n.state = .retryHead)) with
  | some i => if (s.xmt.buffer[i]?).any (fun n => permitted s.ctl.station n.content.kind) then some i else none
  | none =>
    match s.xmt.buffer.findIdx? (s.candidate 0) with
    | some i => some i
    | none =>
      match s.xmt.buffer.findIdx? (s.candidate 1) with
      | some i => some i
      | none => s.xmt.buffer.findIdx? (s.candidate 2)

/-- The beacon content that the present state composes (R114). -/
def State.composeBeacon (s : State) : BeaconContent :=
  { serial := s.ctl.serial, role := s.ctl.role, digest := s.ctl.digest.getD 0,
    quarantined := decide (s.ctl.station = .quarantined), saturated := s.trk.satMark, condemned := s.fenceMap.map byteOf }

/-- The content that a first attempt fixes (R123): a BEACON is composed, other notes stand as they are. -/
def State.fixedContent (s : State) : Content → Content
  | .beacon _ => .beacon (some s.composeBeacon)
  | .enrol n r d => .enrol n r d
  | .accuse a k ts n => .accuse a k ts n
  | .rebut a t k => .rebut a t k

/-- The first attempt of a note (R123): content fixed, sequence number taken (R111), budget consumed (R122), begun. Composing a BEACON
clears the saturation mark (R10, R114). The line carries the station's own start bit (R98). -/
def State.firstAttempt (i : Nat) (n : TxNote) (s : State) : State :=
  let begun : TxNote := { n with content := s.fixedContent n.content, state := .underWay, seq := some s.xmt.seqCounter }
  { s with
    xmt := { buffer := s.xmt.buffer.set i begun, budget := if n.budgeted then s.xmt.budget - 1 else s.xmt.budget,
             seqCounter := s.xmt.seqCounter + 1 },
    trk := { s.trk with satMark := if n.content.kind = .beacon then false else s.trk.satMark },
    rcv := { s.rcv with idleCount := 0 } }

/-- A retry of the retry head: the same bytes, no budget (R104). -/
def State.retryAttempt (i : Nat) (n : TxNote) (s : State) : State :=
  { s with xmt := { s.xmt with buffer := s.xmt.buffer.set i { n with state := .underWay } },
           rcv := { s.rcv with idleCount := 0 } }

/-- Whether the station may begin an attempt: out of reset, its idle count at 12 and no note of its own under way (R99, R156). -/
def State.mayBegin (s : State) : Bool := !s.ctl.inReset && decide (12 ≤ s.rcv.idleCount) && !s.sending

/-- The beginning of an attempt (R123). -/
def State.begin (s : State) : State :=
  if s.mayBegin then
    match s.nextNote with
    | some i =>
      match s.xmt.buffer[i]? with
      | some n => if n.state = .retryHead then s.retryAttempt i n else s.firstAttempt i n
      | none => s
    | none => s
  else s

/-- The place of the note that is under way. -/
def State.underWayAt (s : State) : Option Nat := s.xmt.buffer.findIdx? fun n => decide (n.state = .underWay)

/-- The note that a buffered note is on the line: the common header of the own slot and serial, and its content (R111, R168). -/
def State.wireNote (s : State) (n : TxNote) : Option Note :=
  let seq := n.seq.getD 0
  match n.content with
  | .enrol serial role digest => some (.enrol { sender := s.ctl.slotStrap, seq := seq, serial := serial, role := role, digest := digest })
  | .beacon (some b) =>
    some (.beacon { sender := s.ctl.slotStrap, seq := seq, serial := b.serial, role := b.role, digest := b.digest,
                    quarantined := b.quarantined, saturated := b.saturated, condemned := b.condemned })
  | .beacon none => none
  | .accuse a k tags surplus =>
    some (.accuse { sender := s.ctl.slotStrap, serialTag := serialTag s.ctl.serial, seq := seq, accused := byteOf a, kind := k,
                    tags := tags, surplus := byteOf surplus })
  | .rebut a t k =>
    some (.rebut { sender := s.ctl.slotStrap, serialTag := serialTag s.ctl.serial, seq := seq, accuser := byteOf a, tag := t, kind := k })

/-- XB_TX at the grain of notes: the bytes of the note under way, none while the line is released (R98, R168, Table 6-2). -/
def State.noteOnLine (s : State) : Option (List Byte) :=
  ((s.xmt.buffer.find? fun n => decide (n.state = .underWay)).bind s.wireNote).map noteBytes

/-- Whether a station loses arbitration with its field against the field that stood on the line (R100, R101): the lower arbitration value
keeps the line, since at the first bit in which they differ the station sent recessive and reads dominant, and from there on it sends
nothing. -/
def losesArbitration (own line : Byte) : Bool := decide (line.toNat < own.toNat)

/-- The end of an attempt that the note survives as the retry head (R104), unless its state change forbids a retry (R93, R105). -/
def State.returnToBuffer (i : Nat) (n : TxNote) (s : State) : State :=
  if n.noRetry then s.setBuffer (s.xmt.buffer.eraseIdx i) else s.setBuffer (s.xmt.buffer.set i { n with state := .retryHead })

/-- An arbitration lost (R101). A field that is no loss against the own one has no effect: DEDUCED, Log 22. -/
def State.loseArbitration (line : Byte) (s : State) : State :=
  match s.underWayAt with
  | some i =>
    match s.xmt.buffer[i]? with
    | some n => if losesArbitration (arbitrationField n.content.kind s.ctl.slotStrap) line then s.returnToBuffer i n else s
    | none => s
  | none => s

/-- A read-back failure (R102, R103): the attempt count rises by 1, and at 4 the note is discarded with XMIT_TROUBLE. -/
def State.failAttempt (s : State) : State :=
  match s.underWayAt with
  | some i =>
    match s.xmt.buffer[i]? with
    | some n =>
      if n.noRetry then s.setBuffer (s.xmt.buffer.eraseIdx i)
      else if n.attempts + 1 < 4 then s.setBuffer (s.xmt.buffer.set i { n with state := .retryHead, attempts := n.attempts + 1 })
      else ((s.setBuffer (s.xmt.buffer.eraseIdx i)).latchFlag xmitTroubleFlag).post (.xmitTrouble n.content.kind (n.seq.getD 0))
    | none => s
  | none => s

/-- An attempt completes (R102): the note has been sent and its slot is freed; the station does not receive it (R108), and the line has
to go idle before the next note. -/
def State.completeAttempt (s : State) : State :=
  match s.underWayAt with
  | some i => (s.setBuffer (s.xmt.buffer.eraseIdx i)).lineBusy
  | none => s

/-- The line has been recessive for 12 bit times (R98): the idle count is 12, and the receiver takes the next note (R106). While the
station itself is sending the line is not idle. -/
def State.goIdle (s : State) : State :=
  if s.listens && !s.sending then s.lineIdle else s

end Sys2Proof.Machine
end

