-- ==== Sys2Proof/Machine/Service.lean ====
section
/-! DEFINITION. The Service Link (chapter 10): when a command is taken, the records it returns, the releases and CONFIGURE. -/

namespace Sys2Proof.Machine

/-! ### Status bytes (Table 11-9) -/

/-- OK. -/
def statusOk : Byte := 0x01
/-- BAD_CONFIG. -/
def statusBadConfig : Byte := 0x02
/-- REFUSED_STATE. -/
def statusRefusedState : Byte := 0x03
/-- BAD_SLOT. -/
def statusBadSlot : Byte := 0x04
/-- NOT_CONDEMNED. -/
def statusNotCondemned : Byte := 0x05
/-- EMPTY. -/
def statusEmpty : Byte := 0x06
/-- UNKNOWN_COMMAND. -/
def statusUnknown : Byte := 0x07
/-- The BAD_CONFIG reason THRESHOLD_ORDER. -/
def reasonThresholdOrder : Byte := 0x01
/-- The BAD_CONFIG reason BABBLE_LIMIT. -/
def reasonBabbleLimit : Byte := 0x02

/-! ### Records (Tables 11-10, 11-11) -/

/-- The status record (Table 11-10). -/
def State.statusRecord (s : State) : List Byte :=
  [stationCode s.ctl.station, stationReason s.ctl.station, byteOf s.ctl.slotStrap.toNat] ++ wordBytes s.ctl.serial ++
  [roleCode s.ctl.role] ++ halfBytes (s.ctl.digest.getD 0) ++ halfBytes s.ctl.epoch ++
  [byteOf s.trk.level, byteOf s.trk.oet.length, byteOf s.eng.accusations.length, byteOf s.xmt.buffer.length,
   byteOf s.lnk.notices.length, byteOf s.xmt.budget, flagBit s.ctl.latch 0, s.lnk.flags.setWidth 8, byteOf s.fenceMap.length] ++
  s.fenceMap.map byteOf

/-- The zone key that READ VIEW shows: 0 while no configuration record is stored (R163). -/
def State.shownKey (s : State) (x : Nat) : Nat :=
  match s.ctl.config with
  | some c => zoneKey c.zoneMask x
  | none => 0

/-- The z that READ VIEW shows, counted at the snapshot (R45); without a stored record every witness set is empty and z is 0. -/
def State.shownZones (s : State) (x : Nat) : Nat :=
  match s.ctl.config with
  | some c => independentZones c x (s.record x).witnesses
  | none => 0

/-- The view record of a slot (Table 11-11). The ages of its witnesses go by the engine's epoch number, so that none passes 14 (Log 23). -/
def State.viewRecord (s : State) (x : Nat) : List Byte :=
  let e := s.entry x
  let r := s.record x
  [byteOf x, presenceCode e.presence] ++ wordBytes e.serial ++
  [roleCode e.role,
   flagBit (!e.matched) 0 ||| flagBit (decide (0 < e.mute)) 1 ||| flagBit e.quarantined 2 ||| flagBit e.saturated 3 |||
     flagBit e.condemnsMe 4 ||| flagBit e.conflictSeen 5,
   standingCode r.standing, (r.cause.map causeCode).getD 0] ++
  numBytes r.score ++
  [byteOf r.probation, flagBit r.quorumShort 0, byteOf (s.shownKey x), byteOf (s.shownZones x), byteOf r.witnesses.length] ++
  r.witnesses.flatMap fun w => [byteOf w.slot, byteOf w.key, byteOf (epochsSince s.evidenceEpoch w.epoch)]

/-! ### Transactions (R158, R159) -/

/-- How many argument bytes a command byte takes (Table 10-1, Table 11-9); an unknown one takes none (R160). -/
def argumentBytes (command : Byte) : Nat :=
  if command = 0x10 then 34 else if command = 0x21 then 1 else if command = 0x40 then 1 else 0

/-- CS_N as the link sees it: high; low since a falling edge out of reset; or held low since before the part left reset, which opens no
transaction until it has risen (R158). -/
inductive ChipSelect where
  | high | low | heldLow
  deriving DecidableEq, Repr

/-- The command of a transaction whose whole bytes on MOSI are a command byte and what follows it (R158 to R160, Table 11-9): taken with its
arguments, MOSI being ignored after them; COMMAND_ABORTED where CS_N rises before the last argument byte; UNKNOWN_COMMAND for a byte
that the table does not list. -/
def commandOf (command : Byte) (rest : List Byte) : Instr :=
  if rest.length < argumentBytes command then .commandAborted
  else if command = 0x10 then .configure (rest.take 34)
  else if command = 0x20 then .readStatus
  else if command = 0x21 then .readView (byteAt rest 0)
  else if command = 0x30 then .takeNotice
  else if command = 0x40 then .release (byteAt rest 0)
  else if command = 0x7E then .restart
  else .unknownCommand command

/-- The command that a transaction brings: none without a whole byte, and none where CS_N is not low from a falling edge out of reset. -/
def transactionCommand (cs : ChipSelect) (mosi : List Byte) : Option Instr :=
  match cs, mosi with
  | .low, command :: rest => some (commandOf command rest)
  | .low, [] => none
  | .high, _ => none
  | .heldLow, _ => none

/-- MISO at byte k of a transaction, none where the pin is not driven (R158, R169): 00h in the command byte, the arguments and the dummy
byte, then the response, then 00h. Not driven in reset and with CS_N high; a held-low CS_N opens no transaction, and what the pin carries
then is not stated (Log 13). -/
def State.miso (cs : ChipSelect) (k : Nat) (s : State) : Option Byte :=
  if s.ctl.inReset then none
  else
    match cs with
    | .high => none
    | .heldLow => Config.heldMiso k
    | .low =>
      match s.lnk.lead with
      | none => some 0
      | some lead => some (if k < lead then 0 else byteAt s.lnk.response (k - lead))

/-- Whether the link can take a command: out of reset (R158), and not within a RESTART transaction, which ends with the warm reset
(R160). -/
def State.linkOpen (s : State) : Bool := !s.ctl.inReset && !s.lnk.restartOpen

/-- A command has been taken: its response snapshot stands behind its command byte, arguments and dummy byte, and whatever an earlier
transaction left unread is lost (R158, R159). -/
def State.respond (command : Byte) (response : List Byte) (s : State) : State :=
  { s with lnk := { s.lnk with lead := some (argumentBytes command + 2), response := response, shown := none, noticeOpen := false } }

/-- A transaction ends before its command is taken (R159): no status is given, and no transaction is in progress. -/
def State.abort (s : State) : State :=
  { s with lnk := { s.lnk with lead := none, response := [], shown := none, noticeOpen := false } }

/-! ### CONFIGURE (R146 to R149) -/

/-- The acceptance of a clamped record, in the order of R146. The bus receiver starts with an idle still to be counted (R106). -/
def State.acceptConfig (c : ConfigRecord) (s : State) : State :=
  let d := digestOf c
  let s1 := { s with
    ctl := { s.ctl with config := some c, digest := some d, msCount := 0, epoch := 0, enrolCount := 0, monitorArmed := true,
                        station := .enrolling },
    rcv := { s.rcv with idleCount := 0, rxReady := false } }
  s1.queueEnrol

/-- CONFIGURE as taken: the status and reason bytes, and the acceptance where the record passes (R146, R148). -/
def State.takeConfigure (record : List Byte) (s : State) : State :=
  if s.ctl.station ≠ .unconfigured then s.respond 0x10 [statusRefusedState]
  else if !thresholdsOrdered (configOf record) then s.respond 0x10 [statusBadConfig, reasonThresholdOrder]
  else if !babbleAllowed (configOf record) then s.respond 0x10 [statusBadConfig, reasonBabbleLimit]
  else (s.acceptConfig (configOf record)).respond 0x10 [statusOk]

/-! ### RELEASE (R61, R62, R95) -/

/-- The removal of every pending entry whose accused is x (R34). -/
def State.dropAgainst (x : Nat) (s : State) : State :=
  s.setAccusations (s.eng.accusations.filter fun e => decide (e.accused ≠ x))

/-- The accepted release of a peer slot (R62). -/
def State.releasePeer (c : ConfigRecord) (x : Nat) (s : State) : State := (s.dropAgainst x).clearRecord c x .release

/-- The reset of the own record at the release of the own slot (R95): a record that was CONDEMNED becomes CLEAR with cause RELEASE and a
STANDING notice; any other becomes CLEAR with its cause kept and no notice (Log 18). -/
def State.clearOwnRecord (c : ConfigRecord) (s : State) : State :=
  let x := s.ownSlot
  let r := s.record x
  if r.standing = .condemned then s.clearRecord c x .release
  else s.setRecord x { clearedRecord c r with standing := .clear }

/-- The release of the own slot in QUARANTINED, in the order of R95. -/
def State.releaseOwn (c : ConfigRecord) (s : State) : State :=
  let s1 := { s with ctl := { s.ctl with latch := false } }
  let s2 := (s1.dropAgainst s1.ownSlot).clearOwnRecord c
  let s3 := s2.mapRoster fun e => { e with condemnsMe := false }
  let s4 := { s3 with ctl := { s3.ctl with station := .running } }
  s4.post (.quarantine .left .release false 0)

/-- The release of the own slot in MUTE with the latch set (R95). -/
def State.clearLatch (s : State) : State :=
  ({ s with ctl := { s.ctl with latch := false } }).post (.quarantine .latchCleared .release false 0)

/-- RELEASE of the own slot (R95): the state after it and the status byte. -/
def State.takeOwnRelease (s : State) : State × Byte :=
  match s.ctl.station, s.ctl.config with
  | .quarantined, some c => (s.releaseOwn c, statusOk)
  | .mute _, _ => if s.ctl.latch then (s.clearLatch, statusOk) else (s, statusNotCondemned)
  | _, _ => (s, statusNotCondemned)

/-- RELEASE of a peer slot (R61): the state after it and the status byte. -/
def State.takePeerRelease (x : Nat) (s : State) : State × Byte :=
  match s.ctl.config with
  | some c => if (s.record x).standing = .condemned then (s.releasePeer c x, statusOk) else (s, statusNotCondemned)
  | none => (s, statusNotCondemned)

/-- RELEASE (R61, R160). -/
def State.takeRelease (x : Nat) (s : State) : State :=
  if !isSlot x then s.respond 0x40 [statusBadSlot]
  else
    let r := if x = s.ownSlot then s.takeOwnRelease else s.takePeerRelease x
    r.1.respond 0x40 [r.2]

/-! ### Resets (R156, R157 and the reset tables of every chapter) -/

/-- The part in reset: every block at its reset values, the latch as given; the serial, the queue of commands with its overlaps, and
the counter of free choices stay. -/
def State.intoReset (latch : Bool) (s : State) : State :=
  { s with ctl := Controller.reset s.ctl.serial latch, trk := Tracker.reset, eng := Engine.reset, rcv := Receiver.reset,
           xmt := Transmitter.reset, lnk := Link.reset, due := Due.none }

/-- Leaving reset (R143): the straps are sampled; a good slot strap gives UNCONFIGURED and fills the own roster entry (R129), a bad one
MUTE(BAD_STRAP) with its MUTED notice. -/
def State.sampleStraps (slotStrap : BitVec 5) (roleStrap : BitVec 2) (s : State) : State :=
  let s1 := { s with ctl := { s.ctl with inReset := false, slotStrap := slotStrap, role := strapRole roleStrap,
                                         station := .unconfigured } }
  if isSlot slotStrap.toNat then
    s1.setEntry s1.ownSlot { s1.entry s1.ownSlot with serial := s1.ctl.serial, role := s1.ctl.role, presence := .present }
  else
    ({ s1 with ctl := { s1.ctl with station := .mute .badStrap } }).post (.muted (.badStrap slotStrap) none s1.ctl.latch)

end Sys2Proof.Machine
end

