-- ==== Sys2Proof/Machine/Finishing.lean ====
section
/-! DEFINITION. The finishing of what has been begun before the next command is taken (R26, R51), and the taking of the moment's work
before the next tick (Log 4, Log 5, Log 25). -/

namespace Sys2Proof.Machine

/-! ### Finishing a request or a run that has been begun -/

/-- The requests of an accepted ACCUSE that are still to be carried out are carried out (R30, R72). -/
def State.finishRun (s : State) : State :=
  match s.ctl.config with
  | some c =>
    let s1 := s.carryOutAll c s.due.run
    { s1 with due := { s1.due with run := [] } }
  | none => s

/-- The expiries of a class tick that has been taken are carried out (R14). -/
def State.finishExpiries (s : State) : State :=
  match s.ctl.config with
  | some c => s.expireAll c
  | none => s

/-- Evidence Engine boundary work that has been begun is completed. -/
def State.finishEvidence (s : State) : State :=
  match s.ctl.config with
  | some c => if 2 ≤ s.due.evidence then s.evidenceUpTo c 6 else s
  | none => s

/-- Note Receiver boundary work that has been begun is completed. -/
def State.finishReceiver (s : State) : State :=
  match s.ctl.config with
  | some c => if 2 ≤ s.due.receiver then s.receiverUpTo c 5 else s
  | none => s

/-- The state with no request of any block partway (R26, R51); a run may be (R50). READ STATUS is taken from it. -/
def State.finishWorks (s : State) : State := s.finishExpiries.finishEvidence.finishReceiver

/-- What READ VIEW finishes of Evidence Engine boundary work that has been begun (R55, R51; DEDUCED, Log 27). Within step 2 the expiries of
that step are completed (the note under Table 11-11); between step 2 and the evaluation of step 4 the records are read as they stand, with
a quorum-short flag that may be stale; within step 5 the work is completed. -/
def State.finishEvidenceForView (s : State) : State :=
  match s.ctl.config with
  | some c =>
    if s.due.evidence = 2 then s.evidenceUpTo c 3
    else if 5 ≤ s.due.evidence then s.evidenceUpTo c 6
    else s
  | none => s

/-- The state that READ VIEW is taken from. -/
def State.finishForView (s : State) : State := s.finishExpiries.finishEvidenceForView.finishReceiver

/-- The state in which any other command is taken: no request and no run is partway. -/
def State.settle (s : State) : State := s.finishRun.finishWorks

/-! ### The moment's work before the next tick -/

/-- Work of the moment that is still to be taken is taken before the next tick (Log 4). -/
def State.catchUp (c : ConfigRecord) (s : State) : State :=
  let s1 := s.settle.allClassTicks c
  let s2 := if s1.due.boundary then s1.crossBoundary else s1
  (((s2.blindWork.evidenceWork c).receiverWork c).transmitterWork c).enrolmentWork c

end Sys2Proof.Machine
end

