-- ==== Sys2Proof/Machine/ResetCommands.lean ====
section
/-! DEFINITION. The meanings of the reset commands (R143, R156, R157). -/

namespace Sys2Proof.Machine

/-- What a command ends in. -/
abbrev Result := Host.Outcome State Fault Refusal

/-- POWER_ON_RESET (R156): every block is reset, the quarantine latch is cleared and ISOLATE deasserted. -/
def execPowerOnReset (s : State) : Result := .next (s.intoReset false)

/-- RESET_N_LOW (R156, R97): a warm reset: every block is reset, the quarantine latch and ISOLATE stay as they were. -/
def execResetNLow (s : State) : Result := .next (s.intoReset s.ctl.latch)

/-- LEAVE_RESET (R143, R129): the straps are sampled. Out of reset there is no reset to leave: no effect (Log 1). -/
def execLeaveReset (slotStrap : BitVec 5) (roleStrap : BitVec 2) (s : State) : Result :=
  .next (if s.ctl.inReset then s.sampleStraps slotStrap roleStrap else s)

/-- RESTART_WARM_RESET (R156, R160): the rising edge of CS_N that closes a RESTART transaction starts the warm reset. Without such a
transaction open there is no such edge: no effect (Log 1). -/
def execRestartWarmReset (s : State) : Result := .next (if s.lnk.restartOpen then s.intoReset s.ctl.latch else s)

end Sys2Proof.Machine
end

