-- ==== Sys2Proof/Machine/BoundaryCommands.lean ====
section
/-! DEFINITION. The meanings of the boundary work commands. The rows WITNESS_EXPIRY, PENDING_ENTRY_DUE, PROBATION_END, MUTE_END and LAPSE
name one event inside a block's boundary work: their meaning carries out the steps of that work that stand before the event, and then the
event; the rest of the work follows at EVIDENCE_BOUNDARY_WORK or NOTE_RECEIVER_BOUNDARY_WORK, or before any other command (Log 5). -/

namespace Sys2Proof.Machine

/-- EVIDENCE_BOUNDARY_WORK (R47): what is still to do of the five steps of Table 2-7. -/
def execEvidenceBoundaryWork (s : State) : Result :=
  let s0 := s.finishRun.finishExpiries.finishReceiver
  .next (match s0.ctl.config with
    | some c => s0.evidenceWork c
    | none => s0)

/-- Whether a record holds an expired entry of a witness (R44). -/
def hasExpired (c : ConfigRecord) (now : Half) (witness : Nat) (r : BoardRecord) : Bool :=
  r.witnesses.any fun w => decide (w.slot = witness) && witnessExpired c now w

/-- WITNESS_EXPIRY (R44): in step 2 of the boundary work, the entry of one witness whose age has reached E is removed from one record.
Where the work is past step 2, or there is no such entry, there is no such event. -/
def execWitnessExpiry (accused witness : Nat) (s : State) : Result :=
  let s0 := s.finishRun.finishExpiries.finishReceiver
  .next (match s0.ctl.config with
    | some c =>
      if 1 ≤ s0.due.evidence ∧ s0.due.evidence ≤ 2 ∧ isSlot accused ∧ hasExpired c s0.ctl.epoch witness (s0.record accused) then
        let s1 := s0.evidenceUpTo c 2
        s1.setRecord accused
          { s1.record accused with witnesses := (s1.record accused).witnesses.filter fun w => decide (w.slot ≠ witness) }
      else s0
    | none => s0)

/-- PENDING_ENTRY_DUE (R32): in step 3 of the boundary work, the oldest due entry is applied and removed. -/
def execPendingEntryDue (s : State) : Result :=
  let s0 := s.finishRun.finishExpiries.finishReceiver
  .next (match s0.ctl.config with
    | some c =>
      match s0.eng.accusations.find? (isDue s0.ctl.epoch) with
      | some e =>
        if 1 ≤ s0.due.evidence ∧ s0.due.evidence ≤ 3 then
          let s1 := (s0.evidenceUpTo c 3).applyEntry c e
          s1.setAccusations (s1.eng.accusations.eraseP (isDue s0.ctl.epoch))
        else s0
      | none => s0
    | none => s0)

/-- PROBATION_END (R66): in step 5 of the boundary work, a record's probation remaining of 1 is lowered to 0. -/
def execProbationEnd (slot : Nat) (s : State) : Result :=
  let s0 := s.finishRun.finishExpiries.finishReceiver
  .next (match s0.ctl.config with
    | some c =>
      if 1 ≤ s0.due.evidence ∧ s0.due.evidence ≤ 5 ∧ isSlot slot ∧ (s0.record slot).probation = 1 then
        let s1 := s0.evidenceUpTo c 5
        s1.setRecord slot { s1.record slot with probation := 0 }
      else s0
    | none => s0)

/-- BLIND_PERIOD_END (R6): the Exchange Tracker's boundary work. -/
def execBlindPeriodEnd (s : State) : Result := .next s.settle.blindWork

/-- NOTE_RECEIVER_BOUNDARY_WORK (R141): what is still to do of the Note Receiver's four steps. -/
def execNoteReceiverBoundaryWork (s : State) : Result :=
  let s0 := s.finishRun.finishExpiries.finishEvidence
  .next (match s0.ctl.config with
    | some c => s0.receiverWork c
    | none => s0)

/-- MUTE_END (R141): in step 2 of the Note Receiver's work, a sender's mute remaining of 1 is lowered to 0. -/
def execMuteEnd (slot : Nat) (s : State) : Result :=
  let s0 := s.finishRun.finishExpiries.finishEvidence
  .next (match s0.ctl.config with
    | some c =>
      if 1 ≤ s0.due.receiver ∧ s0.due.receiver ≤ 2 ∧ isSlot slot ∧ (s0.entry slot).mute = 1 then
        let s1 := s0.receiverUpTo c 2
        s1.setEntry slot { s1.entry slot with mute := 0 }
      else s0
    | none => s0)

/-- LAPSE (R139): in step 3 of the Note Receiver's work, a PRESENT peer's lapse counter reaches L and the peer becomes LAPSED with a
PRESENCE notice. -/
def execLapse (slot : Nat) (s : State) : Result :=
  let s0 := s.finishRun.finishExpiries.finishEvidence
  .next (match s0.ctl.config with
    | some c =>
      if 1 ≤ s0.due.receiver ∧ s0.due.receiver ≤ 3 ∧ isSlot slot ∧ slot ≠ s0.ownSlot ∧ (s0.entry slot).presence = .present ∧
          c.lapse ≤ (s0.entry slot).lapse + 1 then
        (s0.receiverUpTo c 3).advanceLapse c slot
      else s0
    | none => s0)

/-- NOTE_TRANSMITTER_BOUNDARY_WORK (R122, R124). -/
def execNoteTransmitterBoundaryWork (s : State) : Result :=
  let s0 := s.settle
  .next (match s0.ctl.config with
    | some c => s0.transmitterWork c
    | none => s0)

/-- ENROLMENT_STEP (R151): the period count advances and an ENROL is asked for at counts 1 to 3; the step that brings the count to 4 ends
the period (R152). -/
def execEnrolmentStep (s : State) : Result :=
  let s0 := s.settle
  .next (match s0.ctl.config with
    | some c => s0.enrolmentWork c
    | none => s0)

/-- END_OF_ENROLMENT (R152): the enrolment step that brings the period to 4, with its decision; before the third step has been taken the
period does not end. -/
def execEndOfEnrolment (s : State) : Result :=
  let s0 := s.settle
  .next (match s0.ctl.config with
    | some c => if 3 ≤ s0.ctl.enrolCount then s0.enrolmentWork c else s0
    | none => s0)

end Sys2Proof.Machine
end

