-- ==== Sys2Proof/Machine/BusCommands.lean ====
section
/-! DEFINITION. The meanings of the bus commands: the station's own attempts (R98 to R105, R123) and the notes it receives (R108, R130 to
R138). -/

namespace Sys2Proof.Machine

/-- BUS_IDLE (R98): the idle count reaches 12. In reset and in UNCONFIGURED the line is ignored. -/
def execBusIdle (s : State) : Result := .next s.settle.goIdle

/-- BEGIN_ATTEMPT (R123): the retry head or the best candidate begins; without one, or off an idle line, the transmitter waits. -/
def execBeginAttempt (s : State) : Result := .next s.settle.begin

/-- ARBITRATION_LOST (R101): against the field that stood on the line. A field that does not beat the station's own is no loss. -/
def execArbitrationLost (line : Byte) (s : State) : Result := .next (s.settle.loseArbitration line)

/-- READ_BACK_FAILURE (R102, R103). -/
def execReadBackFailure (s : State) : Result := .next s.settle.failAttempt

/-- ATTEMPT_COMPLETE (R102). -/
def execAttemptComplete (s : State) : Result := .next s.settle.completeAttempt

/-- RECEIVE_GARBLED_NOTE (R108 to R110): the bytes framed are judged, and discarded with RX_GARBLED; bytes that spell a good note are that
note (Log 16). -/
def execReceiveGarbledNote (reception : Reception) (s : State) : Result := .next (s.settle.takeReception reception)

/-- RECEIVE_ENROL (R133). -/
def execReceiveEnrol (note : EnrolNote) (s : State) : Result := .next (s.settle.takeNote (.enrol note))

/-- RECEIVE_BEACON (R138). -/
def execReceiveBeacon (note : BeaconNote) (s : State) : Result := .next (s.settle.takeNote (.beacon note))

/-- RECEIVE_ACCUSE (R131). -/
def execReceiveAccuse (note : AccuseNote) (s : State) : Result := .next (s.settle.takeNote (.accuse note))

/-- RECEIVE_REBUT (R77). -/
def execReceiveRebut (note : RebutNote) (s : State) : Result := .next (s.settle.takeNote (.rebut note))

end Sys2Proof.Machine
end

