-- ==== Sys2Proof/Machine/ClockCommands.lean ====
section
/-! DEFINITION. The meanings of the clock commands: the 1 ms tick, the class ticks and their expiries, the epoch boundary and the clock
monitor (R13 to R15, R150, R154). -/

namespace Sys2Proof.Machine

/-- MS_TICK (R150, R13): the millisecond count advances, and what falls at it becomes due; work of the moment before that is still to be
taken is taken first (Log 4). While the count is stopped there is no tick: no effect. -/
def execMsTick (s : State) : Result :=
  .next (match s.ctl.config with
    | some c => (s.catchUp c).advanceCount c
    | none => s)

/-- CLASS_TICK (R14): the entries of the class are older by 1; those whose age reaches 4 are then to expire (OET_ENTRY_EXPIRY). A class
whose tick has not fallen is not ticked: no effect (Log 1, Log 4). -/
def execClassTick (cls : Fin 4) (s : State) : Result :=
  let s0 := s.settle
  .next (if cls ∈ s0.due.classTicks then s0.takeClassTick cls else s0)

/-- OET_ENTRY_EXPIRY (R14, R15): the oldest entry whose age has reached 4 is removed, and yields a MISS observation unless the station is
blind; with none there is no expiry. Expiries that are outstanding come before any block's work that is partway (Log 5). -/
def execOetEntryExpiry (s : State) : Result :=
  .next (match s.ctl.config with
    | some c => s.finishRun.expireOldest c
    | none => s)

/-- EPOCH_BOUNDARY (R150): the epoch number advances and every block is told. It falls only where the count is a multiple of the epoch
length: else no effect (Log 1, Log 4). -/
def execEpochBoundary (s : State) : Result :=
  let s0 := s.settle
  .next (if s0.due.boundary then s0.crossBoundary else s0)

/-- The clock fault's effect on the station state (R154). -/
def State.faultState (c : ConfigRecord) (s : State) : State :=
  match s.ctl.station with
  | .enrolling => s.enterMute c .clockFault
  | .running => s.enterMute c .clockFault
  | .quarantined => s.enterMute c .clockFault
  | .mute r =>
    ({ s with ctl := { s.ctl with station := .mute .clockFault } }).post (.muted .clockFault (some (.mute r)) s.ctl.latch)
  | .unconfigured => s

/-- CLOCK_FAULT (R154): the tick moves to the RC oscillator and the station is muted. The monitor finds a fault only while armed, and at
most once between two resets: else no effect. -/
def execClockFault (s : State) : Result :=
  let s0 := s.settle
  .next (match s0.ctl.config with
    | some c =>
      if s0.ctl.monitorArmed ∧ s0.ctl.tickSource = .clkin then
        ({ s0 with ctl := { s0.ctl with tickSource := .rc } }).faultState c
      else s0
    | none => s0)

end Sys2Proof.Machine
end

