-- ==== Sys2Proof/Machine/LinkCommands.lean ====
section
/-! DEFINITION. The meanings of the service link commands (chapter 10). In reset, and within a RESTART transaction, no command is taken
(R158, R160). -/

namespace Sys2Proof.Machine

/-- CONFIGURE (R146 to R149): a record cut short of 34 bytes has no effect and gives no status (R159); bytes after the 34th are ignored
(R158). -/
def execConfigure (record : List Byte) (s : State) : Result :=
  let s0 := s.settle
  .next (if !s0.linkOpen then s0 else if record.length < 34 then s0.abort else s0.takeConfigure (record.take 34))

/-- READ_STATUS (R161): the snapshot, and with it the flags shown; conditions from now on re-latch. A run partway is read as it stands
(R50). -/
def execReadStatus (s : State) : Result :=
  let s0 := s.finishWorks
  .next (if s0.linkOpen then
      let s1 := s0.respond 0x20 ([statusOk] ++ s0.statusRecord)
      { s1 with lnk := { s1.lnk with shown := some s1.lnk.flags, relatched := 0 } }
    else s0)

/-- FLAGS_BYTE_CLOCKED (R161): the flags shown are cleared unless they re-latched. Outside a READ STATUS response there is no flags byte. -/
def execFlagsByteClocked (s : State) : Result :=
  let s0 := s.settle
  .next (match s0.lnk.shown with
    | some f => { s0 with lnk := { s0.lnk with flags := clearShown s0.lnk.flags f s0.lnk.relatched, shown := none } }
    | none => s0)

/-- READ_VIEW (R163). A run partway is read as it stands (R50). After a witness expiry or an item of step 3, and before the evaluation of
step 4, the view shows the quorum-short flag of the evaluation before, beside the fresh z (R55, Log 27). -/
def execReadView (slot : Byte) (s : State) : Result :=
  let s0 := s.finishForView
  .next (if s0.linkOpen then
      s0.respond 0x21 (if isSlot slot.toNat then [statusOk] ++ s0.viewRecord slot.toNat else [statusBadSlot])
    else s0)

/-- TAKE_NOTICE (R165): the head notice as it stands, or EMPTY. -/
def execTakeNotice (s : State) : Result :=
  let s0 := s.settle
  .next (if s0.linkOpen then
      match s0.lnk.notices with
      | n :: _ =>
        let s1 := s0.respond 0x30 ([statusOk] ++ noticeBytes n)
        { s1 with lnk := { s1.lnk with noticeOpen := true } }
      | [] => s0.respond 0x30 [statusEmpty]
    else s0)

/-- NOTICE_REMOVED (R165): byte 13 of the notice record has been clocked out; the head notice leaves the queue. Outside such a response
there is no such byte. -/
def execNoticeRemoved (s : State) : Result :=
  let s0 := s.settle
  .next (if s0.lnk.noticeOpen then
      { s0 with lnk := { s0.lnk with notices := s0.lnk.notices.tail, noticeOpen := false } }
    else s0)

/-- RELEASE (R61, R95, R160). -/
def execRelease (slot : Byte) (s : State) : Result :=
  let s0 := s.settle
  .next (if s0.linkOpen then s0.takeRelease slot.toNat else s0)

/-- RESTART (R160): answered OK; the warm reset waits for the closing edge of CS_N. -/
def execRestart (s : State) : Result :=
  let s0 := s.settle
  .next (if s0.linkOpen then
      let s1 := s0.respond 0x7E [statusOk]
      { s1 with lnk := { s1.lnk with restartOpen := true } }
    else s0)

/-- UNKNOWN_COMMAND (R160): a byte that Table 11-9 does not list. A listed byte is no unknown command: no effect (Log 1). -/
def execUnknownCommand (command : Byte) (s : State) : Result :=
  let s0 := s.settle
  .next (if s0.linkOpen ∧ commandBytes.contains command = false then s0.respond command [statusUnknown] else s0)

/-- COMMAND_ABORTED (R159): CS_N rises before the command is taken; it is discarded, and no status is given. -/
def execCommandAborted (s : State) : Result :=
  let s0 := s.settle
  .next (if s0.linkOpen then s0.abort else s0)

end Sys2Proof.Machine
end

