-- ==== Sys2Proof/Machine/TapCommands.lean ====
section
/-! DEFINITION. The meanings of the tap commands (R1 to R5). -/

namespace Sys2Proof.Machine

/-- TAP_RECORD (R1 to R4): the frame's record is taken at its sixth byte. -/
def execTapRecord (bytes : List Byte) (s : State) : Result := .next (s.settle.takeTapFrame bytes)

/-- TAP_RECORD_INCOMPLETE (R1): a frame that ended before its sixth byte; TAP_GARBLED is latched in RUNNING and QUARANTINED. Bytes beyond
the fifth cannot belong to such a frame and are not looked at. -/
def execTapRecordIncomplete (bytes : List Byte) (s : State) : Result := .next (s.settle.takeTapFrame (bytes.take 5))

/-- TAKE_TAP_RECORD (R5): the head record is removed from the tap FIFO and processed whole; on an empty FIFO the tracker waits. -/
def execTakeTapRecord (s : State) : Result :=
  let s0 := s.settle
  .next (match s0.ctl.config, s0.trk.tapFifo with
    | some c, r :: rest => ({ s0 with trk := { s0.trk with tapFifo := rest } }).processRecord c r
    | some _, [] => s0
    | none, _ => s0)

end Sys2Proof.Machine
end

