-- ==== Sys2Proof/Machine/Dispatch.lean ====
section
/-! DEFINITION. exec: one arm per command, each one call of its meaning. -/

namespace Sys2Proof.Machine

def exec (i : Instr) (s : State) : Host.Outcome State Fault Refusal :=
  match i with
  | .powerOnReset => Sys2Proof.Machine.execPowerOnReset s
  | .resetNLow => Sys2Proof.Machine.execResetNLow s
  | .leaveReset slotStrap roleStrap => Sys2Proof.Machine.execLeaveReset slotStrap roleStrap s
  | .tapRecord bytes => Sys2Proof.Machine.execTapRecord bytes s
  | .tapRecordIncomplete bytes => Sys2Proof.Machine.execTapRecordIncomplete bytes s
  | .takeTapRecord => Sys2Proof.Machine.execTakeTapRecord s
  | .msTick => Sys2Proof.Machine.execMsTick s
  | .classTick cls => Sys2Proof.Machine.execClassTick cls s
  | .oetEntryExpiry => Sys2Proof.Machine.execOetEntryExpiry s
  | .epochBoundary => Sys2Proof.Machine.execEpochBoundary s
  | .evidenceBoundaryWork => Sys2Proof.Machine.execEvidenceBoundaryWork s
  | .witnessExpiry accused witness => Sys2Proof.Machine.execWitnessExpiry accused witness s
  | .pendingEntryDue => Sys2Proof.Machine.execPendingEntryDue s
  | .probationEnd slot => Sys2Proof.Machine.execProbationEnd slot s
  | .blindPeriodEnd => Sys2Proof.Machine.execBlindPeriodEnd s
  | .noteReceiverBoundaryWork => Sys2Proof.Machine.execNoteReceiverBoundaryWork s
  | .muteEnd slot => Sys2Proof.Machine.execMuteEnd slot s
  | .lapse slot => Sys2Proof.Machine.execLapse slot s
  | .noteTransmitterBoundaryWork => Sys2Proof.Machine.execNoteTransmitterBoundaryWork s
  | .enrolmentStep => Sys2Proof.Machine.execEnrolmentStep s
  | .endOfEnrolment => Sys2Proof.Machine.execEndOfEnrolment s
  | .clockFault => Sys2Proof.Machine.execClockFault s
  | .busIdle => Sys2Proof.Machine.execBusIdle s
  | .beginAttempt => Sys2Proof.Machine.execBeginAttempt s
  | .arbitrationLost line => Sys2Proof.Machine.execArbitrationLost line s
  | .readBackFailure => Sys2Proof.Machine.execReadBackFailure s
  | .attemptComplete => Sys2Proof.Machine.execAttemptComplete s
  | .receiveGarbledNote reception => Sys2Proof.Machine.execReceiveGarbledNote reception s
  | .receiveEnrol note => Sys2Proof.Machine.execReceiveEnrol note s
  | .receiveBeacon note => Sys2Proof.Machine.execReceiveBeacon note s
  | .receiveAccuse note => Sys2Proof.Machine.execReceiveAccuse note s
  | .receiveRebut note => Sys2Proof.Machine.execReceiveRebut note s
  | .configure record => Sys2Proof.Machine.execConfigure record s
  | .readStatus => Sys2Proof.Machine.execReadStatus s
  | .flagsByteClocked => Sys2Proof.Machine.execFlagsByteClocked s
  | .readView slot => Sys2Proof.Machine.execReadView slot s
  | .takeNotice => Sys2Proof.Machine.execTakeNotice s
  | .noticeRemoved => Sys2Proof.Machine.execNoticeRemoved s
  | .release slot => Sys2Proof.Machine.execRelease slot s
  | .restart => Sys2Proof.Machine.execRestart s
  | .restartWarmReset => Sys2Proof.Machine.execRestartWarmReset s
  | .unknownCommand command => Sys2Proof.Machine.execUnknownCommand command s
  | .commandAborted => Sys2Proof.Machine.execCommandAborted s

end Sys2Proof.Machine
end

