-- ==== Sys2Proof/Safety.lean ====
section
/-! DEFINITION. What counts as a sound state of the station: the bounds and laws that the spec states of its tables, and the states in
which no request is partway. The statements for the provers are made in these terms. -/

namespace Sys2Proof.Safety

open Sys2Proof Sys2Proof.Machine

/-! ### Requests partway (R26, R51; Log 5) -/

/-- No request of any block is partway: no expiry of a tick is outstanding and no boundary work has been begun. -/
abbrev Readable (s : State) : Prop := (∀ e ∈ s.trk.oet, e.age < 4) ∧ s.due.evidence ≤ 1 ∧ s.due.receiver ≤ 1

/-- No request and no run is partway. -/
abbrev Quiet (s : State) : Prop := Readable s ∧ s.due.run = []

/-- The Evidence Engine's boundary work and the events within it (R47). -/
def evidencePart : Instr → Bool
  | .evidenceBoundaryWork | .witnessExpiry _ _ | .pendingEntryDue | .probationEnd _ => true
  | _ => false

/-- The Note Receiver's boundary work and the events within it (R141). -/
def receiverPart : Instr → Bool
  | .noteReceiverBoundaryWork | .muteEnd _ | .lapse _ => true
  | _ => false

/-- Whether a command is taken only once no request and no run is partway. The others are the resets, which end whatever is in progress
(R157), the commands that are themselves part of a partway request, and the readings, which may fall within a run (R50), a view within
Evidence Engine work as well (R55). -/
def settlesFirst : Instr → Bool
  | .powerOnReset | .resetNLow | .leaveReset _ _ | .restartWarmReset => false
  | .oetEntryExpiry | .evidenceBoundaryWork | .witnessExpiry _ _ | .pendingEntryDue | .probationEnd _ => false
  | .noteReceiverBoundaryWork | .muteEnd _ | .lapse _ => false
  | .readStatus | .readView _ => false
  | _ => true

/-- Whether a command resets the part where it takes effect (R156). -/
def isReset : Instr → Bool
  | .powerOnReset | .resetNLow | .restartWarmReset => true
  | _ => false

/-! ### Table sizes -/

/-- The board records and the roster have one entry for each slot from 1 to 24 (R51, R129). -/
abbrev Tables (s : State) : Prop := s.eng.records.length = 24 ∧ s.rcv.roster.length = 24

/-! ### The Station Controller -/

/-- A stored record lies within the stored ranges of Table 9-2 and passes the tests of R148. -/
abbrev ConfigSound (c : ConfigRecord) : Prop :=
  c.epochCode ≤ 4 ∧ (2 ≤ c.decay ∧ c.decay ≤ 6) ∧ (1 ≤ c.quorum ∧ c.quorum ≤ 4) ∧
  (c.tClear < c.tWatch ∧ c.tWatch < c.tSuspect ∧ c.tSuspect < c.tCondemn ∧ c.tCondemn ≤ 4095) ∧
  (1 ≤ c.wMiss ∧ c.wMiss ≤ 255) ∧ (1 ≤ c.wCorrupt ∧ c.wCorrupt ≤ 255) ∧ (1 ≤ c.wRebut ∧ c.wRebut ≤ 255) ∧
  (1 ≤ c.wBabble ∧ c.wBabble ≤ 255) ∧ (1 ≤ c.expiry ∧ c.expiry ≤ 15) ∧ (2 ≤ c.lapse ∧ c.lapse ≤ 15) ∧
  (1 ≤ c.probation ∧ c.probation ≤ 255) ∧ (1 ≤ c.budget ∧ c.budget ≤ 32) ∧
  (4 ≤ c.babble ∧ c.babble ≤ 255 ∧ 2 * c.budget + 2 ≤ c.babble) ∧
  (c.timeouts.length = 4 ∧ ∀ t ∈ c.timeouts, t ≤ 12) ∧ c.sampleMatch &&& c.baseMask = c.sampleMatch ∧
  (16 ≤ c.high ∧ c.high ≤ 64 ∧ c.low ≤ c.high - 8)

/-- The Station Controller's state hangs together: a record is stored exactly outside UNCONFIGURED and MUTE(BAD_STRAP) (Table 9-1) and
is sound; the digest is the record's (R149); without a record the clock stands at 0, nothing falls due and the monitor is not armed
(R144, R150, R154); with
one the station has an own slot (R143); the latch is clear in RUNNING (Table 5-1); a trigger is held over only in ENROLLING (R91);
the enrolment period ends at 4 (R151). -/
abbrev ControllerSound (s : State) : Prop :=
  s.ctl.serial ≠ 0 ∧
  (s.ctl.config = none ↔ s.ctl.station = .unconfigured ∨ s.ctl.station = .mute .badStrap) ∧
  (s.ctl.inReset = true → s.ctl.station = .unconfigured) ∧
  (∀ c ∈ s.ctl.config, ConfigSound c ∧ isSlot s.ownSlot = true ∧ s.ctl.digest = some (digestOf c)) ∧
  (s.ctl.config = none → s.ctl.digest = none ∧ s.ctl.msCount = 0 ∧ s.ctl.epoch = 0 ∧ s.ctl.enrolCount = 0 ∧
    s.ctl.tickSource = .clkin ∧ s.due = Due.none) ∧
  (s.ctl.station = .unconfigured → s.ctl.inReset = false → isSlot s.ownSlot = true) ∧
  s.ctl.monitorArmed = s.ctl.config.isSome ∧
  (s.ctl.station = .running → s.ctl.latch = false) ∧
  (s.ctl.held ≠ none → s.ctl.station = .enrolling) ∧
  s.ctl.enrolCount ≤ 4 ∧ (s.ctl.station = .enrolling → s.ctl.enrolCount ≤ 3)

/-! ### The Tap Port and the Exchange Tracker -/

/-- Whether two entries are of different exchanges (R12). -/
abbrev differentExchanges (e f : OetEntry) : Prop := ¬ (e.dir = f.dir ∧ e.peer = f.peer ∧ e.tag = f.tag)

/-- The bounds of Table 1-7's state and the laws of R12. Outside RUNNING and QUARANTINED the tracker is as reset leaves it (R1, R23). -/
abbrev TrackerSound (s : State) : Prop :=
  s.trk.tapFifo.length ≤ 32 ∧ s.trk.blind ≤ 2 ∧ s.trk.level ≤ 4 ∧ s.trk.oet.length ≤ 64 ∧ s.trk.answers.length ≤ 128 ∧
  s.trk.oet.Pairwise differentExchanges ∧
  (∀ c ∈ s.ctl.config, ∀ e ∈ s.trk.oet, tagEligible c 0 e.tag = true) ∧
  (∀ e ∈ s.trk.oet, e.age ≤ 4) ∧
  (s.ctl.station ≠ .running → s.ctl.station ≠ .quarantined → s.trk = Tracker.reset)

/-! ### The Evidence Engine -/

/-- A board record within its bounds (R40, R41, R66); its cause is absent only while it is CLEAR (R56). -/
abbrev RecordSound (r : BoardRecord) : Prop :=
  r.score ≤ 4095 ∧ r.probation ≤ 255 ∧ r.witnesses.length ≤ 8 ∧ r.witnesses.Pairwise (fun v w => v.slot < w.slot) ∧
  (r.cause = none → r.standing = .clear)

/-- Whether two pending entries may stand together (R27): no two tagged ones share accuser, accused and tag, no two untagged ones share
accuser, accused and kind. -/
def mayStandTogether (e f : Accusation) : Bool :=
  match e.load, f.load with
  | .tagged t, .tagged u => !(decide (e.accuser = f.accuser) && decide (e.accused = f.accused) && decide (t = u))
  | .untagged _, .untagged _ => !(decide (e.accuser = f.accuser) && decide (e.accused = f.accused) && decide (e.kind = f.kind))
  | .tagged _, .untagged _ | .untagged _, .tagged _ => true

/-- A surplus that a run has still to add counts 1 to 255 (R29). -/
def requestSound : Request → Bool
  | .addSurplus _ _ _ n => decide (1 ≤ n) && decide (n ≤ 255)
  | .addTagged _ _ _ _ | .lookup _ _ _ | .count _ => true

/-- The laws of the pending accusation list (R27) and the bounds of the board records. -/
abbrev EngineSound (s : State) : Prop :=
  s.eng.records.length = 24 ∧ (∀ r ∈ s.eng.records, RecordSound r) ∧
  s.eng.accusations.length ≤ 48 ∧ s.eng.accusations.Pairwise (fun e f => mayStandTogether e f = true) ∧
  (∀ e ∈ s.eng.accusations, isSlot e.accuser = true ∧ isSlot e.accused = true ∧ 1 ≤ e.count ∧ e.count ≤ 255) ∧
  (∀ r ∈ s.due.run, requestSound r = true)

/-! ### The Note Receiver -/

/-- A roster entry within its bounds (Table 8-1): no serial exactly while the slot is UNSEEN (R133). -/
abbrev EntrySound (e : RosterEntry) : Prop :=
  (e.presence = .unseen ↔ e.serial = 0) ∧ e.lapse ≤ 15 ∧ e.accepted ≤ 256 ∧ e.mute ≤ 2

/-- The bounds of the roster (R129, R139). A PRESENT entry's lapse counter is below L; without a stored record no counter has moved. -/
abbrev RosterSound (s : State) : Prop :=
  s.rcv.roster.length = 24 ∧ (∀ e ∈ s.rcv.roster, EntrySound e) ∧
  (∀ c ∈ s.ctl.config, ∀ e ∈ s.rcv.roster, e.presence = .present → e.lapse < c.lapse) ∧
  (s.ctl.config = none → ∀ e ∈ s.rcv.roster, e.lapse = 0)

/-! ### The Note Transmitter -/

/-- Whether a pool may hold a note of a kind (Table 7-1). -/
def poolHolds : Pool → NoteKind → Bool
  | .beacon, .enrol | .beacon, .beacon => true
  | .rebut, .rebut => true
  | .accuse, .accuse => true
  | .shared, .rebut | .shared, .accuse => true
  | _, _ => false

/-- A buffered note within Table 7-2: its pool may hold its kind, it has a sequence number exactly once begun, fewer than four failed
attempts, a BEACON is composed once begun, and an ACCUSE holds 1 to 6 tags and a surplus up to 255. -/
def noteSound (n : TxNote) : Bool :=
  poolHolds n.pool n.content.kind && decide (n.state = .waiting ↔ n.seq = none) && decide (n.attempts < 4) &&
    match n.content with
    | .beacon none => decide (n.state = .waiting)
    | .accuse _ _ tags surplus => decide (1 ≤ tags.length) && decide (tags.length ≤ 6) && decide (surplus ≤ 255)
    | .enrol _ _ _ | .beacon (some _) | .rebut _ _ _ => true

/-- Whether two buffered notes may stand together (R117): no two ACCUSE notes that have not begun share accused slot and kind. -/
def mayWaitTogether (m n : TxNote) : Bool :=
  match m.content, n.content with
  | .accuse a k _ _, .accuse b j _ _ =>
    !(decide (m.state = .waiting) && decide (n.state = .waiting) && decide (a = b) && decide (k = j))
  | _, _ => true

/-- The laws of the transmit buffer (R117, Table 7-1, R104): no pool over its size and at most 16 notes, at most one BEACON or ENROL, at
most one note begun, no two waiting ACCUSE notes of one accused slot and kind. The budget lies within B (R122). Where the station begins
no transmission the buffer is empty (R127, R128). -/
abbrev BufferSound (s : State) : Prop :=
  s.xmt.buffer.length ≤ 16 ∧
  (poolUse s.xmt.buffer .beacon ≤ 1 ∧ poolUse s.xmt.buffer .rebut ≤ 3 ∧ poolUse s.xmt.buffer .accuse ≤ 3 ∧
    poolUse s.xmt.buffer .shared ≤ 9) ∧
  (s.xmt.buffer.filter fun n => decide (n.content.kind = .beacon) || decide (n.content.kind = .enrol)).length ≤ 1 ∧
  (s.xmt.buffer.filter fun n => decide (n.state ≠ .waiting)).length ≤ 1 ∧
  (∀ n ∈ s.xmt.buffer, noteSound n = true) ∧
  s.xmt.buffer.Pairwise (fun m n => mayWaitTogether m n = true) ∧
  (∀ c ∈ s.ctl.config, s.xmt.budget ≤ c.budget) ∧ (s.ctl.config = none → s.xmt.budget = 0) ∧
  (s.ctl.station = .unconfigured ∨ (∃ r, s.ctl.station = .mute r) → s.xmt.buffer = [])

/-! ### The Service Link -/

/-- The notice queue's bound (R164); a notice is being clocked out only while one is held (R165). -/
abbrev LinkSound (s : State) : Prop :=
  s.lnk.notices.length ≤ 32 ∧ (s.lnk.noticeOpen = true → s.lnk.notices ≠ [])

/-! ### Shorthand of the statements -/

/-- The state after some commands, one after another; a command that does not answer a next state is passed over. -/
def afterAll (commands : List Instr) (s : State) : State :=
  commands.foldl (fun t i => match exec i t with | .next u => u | .fault _ => t | .refused _ => t) s

/-- The station takes notes from the line: out of reset and not UNCONFIGURED, an idle counted, nothing of its own under way
(R106, R108, R132). -/
abbrev takesNotes (s : State) : Prop :=
  s.ctl.inReset = false ∧ s.ctl.station ≠ .unconfigured ∧ s.rcv.rxReady = true ∧ ∀ n ∈ s.xmt.buffer, n.state ≠ .underWay

/-- A note has ended on the line: the idle count starts again (R108). -/
def waitsForIdle (s : State) : State := { s with rcv := { s.rcv with idleCount := 0, rxReady := false } }

/-- Check 5 of Table 8-2 does not discard an ACCUSE or REBUT of slot x with a serial tag and a sequence number. -/
abbrev accepts (s : State) (x : Nat) (tag : Half) (seq : Byte) : Prop :=
  (s.entry x).serial ≠ 0 ∧ tag = (s.entry x).serial.extractLsb' 0 16 ∧ (s.entry x).matched = true ∧ (s.entry x).mute = 0 ∧
  (s.entry x).quarantined = false ∧ (s.record x).standing ≠ .condemned ∧ (s.entry x).lastSeq ≠ some seq

/-- What an ENROL or BEACON says of its sender; a BEACON's flags and condemned list as well. -/
structure Identity where
  slot : Nat
  seq : Byte
  serial : Word
  role : Role
  digest : Half
  content : Option (Bool × Bool × List Byte)
  deriving DecidableEq, Repr

/-- The identity that RECEIVE_ENROL and RECEIVE_BEACON bring. -/
def identityOf : Instr → Option Identity
  | .receiveEnrol n => some { slot := n.sender.toNat, seq := n.seq, serial := n.serial, role := n.role, digest := n.digest, content := none }
  | .receiveBeacon n => some { slot := n.sender.toNat, seq := n.seq, serial := n.serial, role := n.role, digest := n.digest,
                               content := some (n.quarantined, n.saturated, n.condemned) }
  | _ => none

/-- The content of an accepted BEACON (R138, R58): the flags and the condemns-me flag enter the entry; a quarantined flag condemns the
sender's record with cause SELF_REPORT and one STANDING notice, unless it is CONDEMNED; then the peer quorum is evaluated. An ENROL
brings none (R133). -/
def contentTaken (c : ConfigRecord) (d : Identity) (s : State) : State :=
  match d.content with
  | none => s
  | some (quarantined, saturated, condemned) =>
    let e := s.entry d.slot
    let r := s.record d.slot
    let flagged := s.setEntry d.slot { e with quarantined := quarantined, saturated := saturated,
                                              condemnsMe := decide (∃ b ∈ condemned, b.toNat = s.ownSlot) }
    let reported :=
      if quarantined = true ∧ r.standing ≠ .condemned then
        (flagged.setRecord d.slot { r with standing := .condemned, cause := some .selfReport }).post
          (.standing d.slot r.standing .condemned .selfReport)
      else flagged
    reported.peerQuorum c

end Sys2Proof.Safety
end

