-- ==== Sys2Proof/Certificates/Slice0/Obligations.lean ====
section
/-! DEFINITION. The statements for the provers. Each docstring names the rule of spec/ that the statement formalises, or the log entry of
the choice it states. -/

section
open Sys2Proof Sys2Proof.Machine Sys2Proof.Safety

/-! ### The machine -/

/-- The front command of the queue is carried out with the rest of the queue; on an empty queue the block idles (Log 2). -/
def Obligations.StepRunsTheFrontCommand : Prop :=
  (∀ (i : Instr) (rest : List Instr) (s : State), step { s with pending := i :: rest } = exec i { s with pending := rest }) ∧
  (∀ s : State, s.pending = [] → step s = .next s)

/-- Every command completes on every state: none ends in a fault or a refusal. None touches the queue or the own serial number (R143). -/
def Obligations.EveryCommandCompletes : Prop :=
  ∀ (i : Instr) (s : State), ∃ t, exec i s = .next t ∧ t.pending = s.pending ∧ t.ctl.serial = s.ctl.serial

/-- What has been begun is carried out before the next command is taken (R26, Log 5). Settling carries out, in this order, the requests of
a run one by one (R30, R72; Log 25), the outstanding expiries (R14, each as OET_ENTRY_EXPIRY), and the rest of a boundary work that stands
partway (R47, R141, as EVIDENCE_BOUNDARY_WORK and NOTE_RECEIVER_BOUNDARY_WORK); in a state with nothing partway it changes nothing, and it
leaves nothing partway. Every command outside the resets, the commands that are parts of such a work and the readings acts on the settled
state; so does a block's own work that has not been begun, and every event within it. A reading finishes every request but may fall
within a run (R50, Log 25), and a view between step 2 of the Evidence Engine's work and its evaluation as well (R55, Log 27). Work of a
moment that is still to be taken is taken before the next tick, as its own commands in the order of Log 4: the class ticks, the boundary,
and every block's work at it; after it nothing is due and nothing partway, and the tick acts on that state. -/
def Obligations.BegunRequestsAreFinishedFirst : Prop :=
  let begins := fun i : Instr => settlesFirst i = true ∨ evidencePart i = true ∨ receiverPart i = true ∨ i = .oetEntryExpiry
  (∀ s : State, Quiet s → s.settle = s) ∧
  (∀ s : State, s.ctl.config.isSome = true → Quiet s.settle) ∧ (∀ s : State, s.settle.settle = s.settle) ∧
  (∀ (i : Instr) (s : State), settlesFirst i = true → exec i s = exec i s.settle) ∧
  (∀ (i : Instr) (s : State), evidencePart i = true → s.due.evidence ≤ 1 → exec i s = exec i s.settle) ∧
  (∀ (i : Instr) (s : State), receiverPart i = true → s.due.receiver ≤ 1 → exec i s = exec i s.settle) ∧
  (∀ (s : State) (c : ConfigRecord) (r : Request) (rest : List Request), s.ctl.config = some c → s.due.run = r :: rest →
    let u : State := { s with due := { s.due with run := rest } }
    let free := fun p : Pool => (s.xmt.buffer.filter fun m => decide (m.pool = p)).length < poolSize p
    let t := match r with
      | .addTagged accuser accused k tag => u.addTagged c accuser accused k tag
      | .addSurplus accuser accused k n => u.addSurplus c accuser accused k n
      | .lookup accuser k tag =>
        if s.ctl.station = .running ∧ lookupAnswer s.trk.answers accuser tag = some true then
          if free .rebut ∨ free .shared then (u.enqueue (.rebut accuser tag k)).takeRebut c u.ownSlot accuser tag k
          else u.latchFlag noteDropped
        else u
      | .count sender => u.countAccepted c sender
    s.settle = t.settle ∧ ∀ i, begins i → exec i s = exec i t) ∧
  (∀ s : State, s.ctl.config.isSome = true → s.due.run = [] → (∃ e ∈ s.trk.oet, 4 ≤ e.age) →
    ∃ t, exec .oetEntryExpiry s = .next t ∧ s.settle = t.settle) ∧
  (∀ s : State, s.ctl.config.isSome = true → s.due.run = [] → (∀ e ∈ s.trk.oet, e.age < 4) →
    (2 ≤ s.due.evidence → s.due.receiver ≤ 1 → exec .evidenceBoundaryWork s = .next s.settle) ∧
    (2 ≤ s.due.receiver → exec .noteReceiverBoundaryWork s = .next s.settle)) ∧
  (∀ s : State,
    let u := ({ s with due := { s.due with run := [] } } : State).settle
    s.finishWorks = { u with due := { u.due with run := s.due.run } }) ∧
  (∀ s : State, s.ctl.config.isSome = true → Readable s.finishWorks) ∧ (∀ s : State, s.finishWorks.due.run = s.due.run) ∧
  (∀ s : State, exec .readStatus s = exec .readStatus s.finishWorks) ∧
  (∀ (s : State) (slot : Byte), s.due.evidence < 2 ∨ 4 < s.due.evidence →
    exec (.readView slot) s = exec (.readView slot) s.finishWorks) ∧
  (∀ (s : State) (c : ConfigRecord), s.ctl.config = some c →
    s.catchUp c = afterAll (s.due.classTicks.map Instr.classTick ++
      [.epochBoundary, .blindPeriodEnd, .evidenceBoundaryWork, .noteReceiverBoundaryWork, .noteTransmitterBoundaryWork,
       .enrolmentStep]) s ∧
    (s.catchUp c).due = Due.none ∧ Quiet (s.catchUp c) ∧ exec .msTick s = exec .msTick (s.catchUp c))

/-! ### Resets and leaving reset -/

/-- What each kind of reset leaves (Tables 1-7, 2-9, 3-6, 5-4, 6-2, 7-3, 8-3, 9-6; R156): the latch is cleared by a power-on reset and kept
by a warm reset. RESTART_WARM_RESET is that reset exactly while a RESTART waits for its closing edge, else no event (Log 1). The straps
not yet sampled stand at 0 and FRONT (Log 11). -/
def Obligations.ResetsLeaveTheTables : Prop :=
  let image := fun (s : State) (latch : Bool) =>
    ({ ctl := { inReset := true, serial := s.ctl.serial, slotStrap := 0, role := .front, station := .unconfigured, config := none,
                digest := none, msCount := 0, epoch := 0, enrolCount := 0, monitorArmed := false, tickSource := .clkin, latch := latch,
                held := none },
       trk := { tapFifo := [], blind := 0, level := 0, oet := [], satMark := false, answers := [] },
       eng := { accusations := [],
                records := List.replicate 24
                  { score := 0, standing := .clear, cause := none, probation := 0, quorumShort := false, witnesses := [] } },
       rcv := { roster := List.replicate 24
                  { serial := 0, role := .front, matched := true, presence := .unseen, lapse := 0, lastSeq := none, accepted := 0,
                    mute := 0, quarantined := false, saturated := false, condemnsMe := false, conflictSeen := false },
                idleCount := 0, rxReady := false },
       xmt := { buffer := [], budget := 0, seqCounter := 0 },
       lnk := { flags := 0, relatched := 0, notices := [], lead := none, response := [], shown := none, noticeOpen := false, restartOpen := false },
       due := { run := [], classTicks := [], boundary := false, blind := false, evidence := 0, receiver := 0, transmitter := false,
                enrolment := false },
       choices := s.choices, overlaps := s.overlaps, pending := s.pending } : State)
  ∀ s : State,
    exec .powerOnReset s = .next (image s false) ∧
    exec .resetNLow s = .next (image s s.ctl.latch) ∧
    (s.lnk.restartOpen = true → exec .restartWarmReset s = .next (image s s.ctl.latch)) ∧
    (s.lnk.restartOpen = false → exec .restartWarmReset s = .next s) ∧
    (image s s.ctl.latch).isolate = s.isolate ∧ (image s false).isolate = false ∧ (image s s.ctl.latch).alertN = true

/-- Leaving reset samples the straps (R143, R129): a slot strap from 1 to 24 gives UNCONFIGURED and fills the own roster entry; 0 and 25 to
31 give MUTE(BAD_STRAP) with its MUTED notice, previous state none. Out of reset there is no such event (Log 1). -/
def Obligations.LeaveResetSamplesTheStraps : Prop :=
  ∀ (s : State) (slot : BitVec 5) (role : BitVec 2) (r : Role), Tables s →
    (role.toNat = 0 ∧ r = .front ∨ role.toNat = 1 ∧ r = .auth ∨ role.toNat = 2 ∧ r = .posting ∨ role.toNat = 3 ∧ r = .gateway) →
    (s.ctl.inReset = false → exec (.leaveReset slot role) s = .next s) ∧
    (s.ctl.inReset = true → 1 ≤ slot.toNat → slot.toNat ≤ 24 →
      exec (.leaveReset slot role) s = .next
        ({ s with ctl := { s.ctl with inReset := false, slotStrap := slot, role := r, station := .unconfigured } }.setEntry slot.toNat
          { s.entry slot.toNat with serial := s.ctl.serial, role := r, presence := .present })) ∧
    (s.ctl.inReset = true → slot.toNat = 0 ∨ 25 ≤ slot.toNat →
      exec (.leaveReset slot role) s = .next
        ({ s with ctl := { s.ctl with inReset := false, slotStrap := slot, role := r, station := .mute .badStrap } }.post
          (.muted (.badStrap slot) none s.ctl.latch)))

/-! ### The tap -/

/-- A tap frame at its sixth byte (R1 to R4, R167), its fields read as numbers by Table 11-2: in reset (R156) and outside RUNNING and
QUARANTINED it is discarded unexamined; a bad record check latches TAP_GARBLED; OTHER records and slots that fit no direction are discarded; the rest is
stored, or, with 32 held, discarded with TAP_OVERRUN and a blind period. A frame short of six bytes latches TAP_GARBLED. -/
def Obligations.TapFrameIsExamined : Prop :=
  ∀ (s : State) (b0 b1 b2 b3 b4 b5 : Byte) (rest : List Byte), Quiet s →
    let frame := b0 :: b1 :: b2 :: b3 :: b4 :: b5 :: rest
    let source := b1.toNat / 8
    let destination := b2.toNat / 8
    let stored := fun (kind : TapKind) (dir : Direction) (peer : Nat) =>
      if s.trk.tapFifo.length < 32 then
        { s with trk := { s.trk with tapFifo := s.trk.tapFifo ++
            [{ kind := kind, cls := b0.toNat / 16 % 4, good := decide (b0.toNat / 8 % 2 = 1), dir := dir, peer := peer,
               tag := BitVec.ofNat 16 (256 * b3.toNat + b4.toNat) }] } }
      else ({ s with trk := { s.trk with blind := 2 } }).latchFlag tapOverrun
    let examined := s.ctl.inReset = false ∧ (s.ctl.station = .running ∨ s.ctl.station = .quarantined)
    (¬ examined → exec (.tapRecord frame) s = .next s) ∧
    (examined → b0 ^^^ b1 ^^^ b2 ^^^ b3 ^^^ b4 ≠ b5 → exec (.tapRecord frame) s = .next (s.latchFlag tapGarbled)) ∧
    (examined → b0 ^^^ b1 ^^^ b2 ^^^ b3 ^^^ b4 = b5 →
      (b0.toNat / 64 = 3 → exec (.tapRecord frame) s = .next s) ∧
      (∀ kind, (b0.toNat / 64 = 0 ∧ kind = .request ∨ b0.toNat / 64 = 1 ∧ kind = .response ∨ b0.toNat / 64 = 2 ∧ kind = .cancel) →
        (source = s.ownSlot → destination ≠ s.ownSlot → 1 ≤ destination → destination ≤ 24 →
          exec (.tapRecord frame) s = .next (stored kind .outbound destination)) ∧
        (destination = s.ownSlot → source ≠ s.ownSlot → 1 ≤ source → source ≤ 24 →
          exec (.tapRecord frame) s = .next (stored kind .inbound source)) ∧
        ((source = s.ownSlot ↔ destination = s.ownSlot) ∨
            (source = s.ownSlot ∧ (destination = 0 ∨ 24 < destination)) ∨
            (destination = s.ownSlot ∧ (source = 0 ∨ 24 < source)) →
          exec (.tapRecord frame) s = .next s))) ∧
    (∀ short : List Byte, short.length < 6 →
      (examined → exec (.tapRecordIncomplete short) s = .next (s.latchFlag tapGarbled)) ∧
      (¬ examined → exec (.tapRecordIncomplete short) s = .next s))

/-- The Exchange Tracker takes a REQUEST from the head of the tap FIFO (R5, R8 to R11): tracked where its frame is good, its class timed,
its exchange not in the table, its tag eligible at the present level, its peer known and its pair of roles watched; inserted at age 0
with the level raised at the high watermark, or, with 64 entries held, refused with SAMPLING_SATURATED and the saturation mark. An empty
FIFO gives nothing to take. -/
def Obligations.RequestIsTracked : Prop :=
  ∀ (s : State) (c : ConfigRecord) (r : TapEntry) (rest : List TapEntry), Quiet s → s.ctl.config = some c →
    (s.trk.tapFifo = [] → exec .takeTapRecord s = .next s) ∧
    (s.trk.tapFifo = r :: rest → r.kind = .request →
      let requester := match r.dir with | .outbound => s.ctl.role | .inbound => (s.entry r.peer).role
      let responder := match r.dir with | .outbound => (s.entry r.peer).role | .inbound => s.ctl.role
      let tracked := r.good = true ∧ c.timeouts.getD r.cls 0 ≠ 0 ∧
        (∀ e ∈ s.trk.oet, ¬ (e.dir = r.dir ∧ e.peer = r.peer ∧ e.tag = r.tag)) ∧
        tagEligible c s.trk.level r.tag = true ∧ (s.entry r.peer).presence ≠ .unseen ∧
        c.watch.getLsbD ((roleCode requester).toNat * 4 + (roleCode responder).toNat) = true
      (¬ tracked → exec .takeTapRecord s = .next { s with trk := { s.trk with tapFifo := rest } }) ∧
      (tracked → s.trk.oet.length < 64 →
        exec .takeTapRecord s = .next { s with trk := { s.trk with
          tapFifo := rest,
          oet := s.trk.oet ++ [{ dir := r.dir, peer := r.peer, tag := r.tag, cls := r.cls, age := 0 }],
          level := if c.high ≤ s.trk.oet.length + 1 ∧ s.trk.level < 4 then s.trk.level + 1 else s.trk.level } }) ∧
      (tracked → 64 ≤ s.trk.oet.length →
        exec .takeTapRecord s =
          .next (({ s with trk := { s.trk with tapFifo := rest, satMark := true } }).latchFlag samplingSaturated)))

/-- The Exchange Tracker takes a RESPONSE or a CANCEL (R5, R11, R16, R17, R18, R21). A RESPONSE removes the entry of the opposite direction
with its peer slot and tag, a CANCEL that of the same direction, and the level is reassessed; a record that matches nothing is passed
over. A matched RESPONSE with a bad frame check makes a CORRUPT observation against the responder; a CANCEL makes none. An outbound
RESPONSE of a timed class whose tag is eligible at level 0 joins the answer list, the oldest of 128 dropped. -/
def Obligations.ResponsesAndCancelsAreMatched : Prop :=
  ∀ (s : State) (c : ConfigRecord) (r : TapEntry) (rest : List TapEntry), Quiet s → s.ctl.config = some c → s.trk.tapFifo = r :: rest →
    let taken := { s with trk := { s.trk with tapFifo := rest } }
    let without := fun oet : List OetEntry => { s with trk := { s.trk with
      tapFifo := rest, oet := oet, level := if oet.length ≤ c.low ∧ 0 < s.trk.level then s.trk.level - 1 else s.trk.level } }
    let answered := fun (u : State) =>
      if r.dir = .outbound ∧ c.timeouts.getD r.cls 0 ≠ 0 ∧ tagEligible c 0 r.tag = true then
        { u with trk := { u.trk with answers :=
            (if s.trk.answers.length < 128 then s.trk.answers else s.trk.answers.tail) ++
              [{ requester := r.peer, tag := r.tag, good := r.good }] } }
      else u
    let answers := fun e : OetEntry => e.dir ≠ r.dir ∧ e.peer = r.peer ∧ e.tag = r.tag
    let cancels := fun e : OetEntry => e.dir = r.dir ∧ e.peer = r.peer ∧ e.tag = r.tag
    (r.kind = .response → (∀ e ∈ s.trk.oet, ¬ answers e) → exec .takeTapRecord s = .next (answered taken)) ∧
    (r.kind = .cancel → (∀ e ∈ s.trk.oet, ¬ cancels e) → exec .takeTapRecord s = .next taken) ∧
    (∀ (before after : List OetEntry) (e : OetEntry), s.trk.oet = before ++ e :: after →
      (r.kind = .response → (∀ f ∈ before, ¬ answers f) → answers e →
        (r.good = true → exec .takeTapRecord s = .next (answered (without (before ++ after)))) ∧
        (r.good = false →
          exec .takeTapRecord s = .next (answered ((without (before ++ after)).observe c
            (match e.dir with | .outbound => e.peer | .inbound => s.ownSlot) .corrupt e.tag)))) ∧
      (r.kind = .cancel → (∀ f ∈ before, ¬ cancels f) → cancels e →
        exec .takeTapRecord s = .next (without (before ++ after))))

/-- Sample eligibility (R7): the level mask is the base mask with the L lowest-numbered of its clear bits set, FFFFh where there are fewer;
a tag is eligible where it equals the sample match on every bit of the level mask; the match bits outside the base mask are stored as 0,
so on the bits added an eligible tag is 0; and a tag eligible at a level is eligible at every lower level. -/
def Obligations.SampleEligibility : Prop :=
  (∀ (base : Half) (level i : Nat), i < 16 →
    ((levelMask base level).getLsbD i = true ↔
      base.getLsbD i = true ∨ ((List.range i).filter fun j => !base.getLsbD j).length < level)) ∧
  (∀ (base : Half) (level : Nat), ((List.range 16).filter fun j => !base.getLsbD j).length < level → levelMask base level = 0xFFFF) ∧
  (∀ (record : List Byte) (i : Nat), (configOf record).baseMask.getLsbD i = false → (configOf record).sampleMatch.getLsbD i = false) ∧
  (∀ (c : ConfigRecord) (level : Nat) (tag : Half),
    tagEligible c level tag = true ↔
      ∀ i, i < 16 → (levelMask c.baseMask level).getLsbD i = true → tag.getLsbD i = c.sampleMatch.getLsbD i) ∧
  (∀ (record : List Byte) (level i : Nat) (tag : Half), i < 16 →
    (levelMask (configOf record).baseMask level).getLsbD i = true → (configOf record).baseMask.getLsbD i = false →
    tagEligible (configOf record) level tag = true → tag.getLsbD i = false) ∧
  (∀ (c : ConfigRecord) (low high : Nat) (tag : Half), low ≤ high → tagEligible c high tag = true → tagEligible c low tag = true)

/-- The answer-list lookup (R22) searches from the newest entry to the oldest: it returns the frame check of an entry with the requester
slot and the tag after which no other such entry stands, and none exactly where there is none. -/
def Obligations.LookupFindsTheNewestAnswer : Prop :=
  ∀ (l : List Answer) (requester : Nat) (tag : Half),
    (lookupAnswer l requester tag = none ↔ ∀ a ∈ l, ¬ (a.requester = requester ∧ a.tag = tag)) ∧
    (∀ good, lookupAnswer l requester tag = some good ↔
      ∃ older newer, l = older ++ { requester := requester, tag := tag, good := good } :: newer ∧
        ∀ a ∈ newer, ¬ (a.requester = requester ∧ a.tag = tag))

/-! ### Observations and accusations -/

/-- Where an observation goes (R20, R30): in RUNNING to the pending list and to the Note Transmitter, one after the other in an order that is
open (Log 6), in QUARANTINED to the pending list only, in every other state nowhere. Where the pending list has room or holds the tag,
the two hand-offs touch different state and the outcome is one for either order; on a full list the early promotion of the first may
quarantine the station, and what comes second is then taken in that state. -/
def Obligations.ObservationIsHandedOn : Prop :=
  ∀ (s : State) (c : ConfigRecord) (accused : Nat) (k : AccKind) (t : Half),
    (s.ctl.station = .quarantined → s.observe c accused k t = s.addTagged c s.ownSlot accused k t) ∧
    (s.ctl.station ≠ .running → s.ctl.station ≠ .quarantined → s.observe c accused k t = s) ∧
    (s.ctl.station = .running →
      ∃ announcedFirst : Bool,
        let chosen : State := { s with choices := s.choices + 1 }
        s.observe c accused k t =
          if announcedFirst then (chosen.announce accused k t).addTagged c s.ownSlot accused k t
          else (chosen.addTagged c s.ownSlot accused k t).announce accused k t) ∧
    (s.ctl.station = .running →
      s.eng.accusations.length < 48 ∨ (∃ e ∈ s.eng.accusations, isTagged s.ownSlot accused t e = true) →
      s.observe c accused k t =
        { (s.announce accused k t) with eng := (s.addTagged c s.ownSlot accused k t).eng, choices := s.choices + 1 })

/-- The request to announce an accusation in RUNNING (R119, R121): merged into the waiting ACCUSE of the accused slot and kind, as a tag
below six tags and as surplus after, a tag listed already changing nothing and a surplus of 255 losing the accusation with NOTE_DROPPED;
else queued as a new note behind every other, in an accuse slot or a shared slot; else announced nowhere with NOTE_DROPPED latched. In
another state nothing is queued and no flag is latched. -/
def Obligations.AccusationIsAnnounced : Prop :=
  ∀ (s : State) (accused : Nat) (k : AccKind) (t : Half),
    (s.ctl.station ≠ .running → s.announce accused k t = s) ∧
    (s.ctl.station = .running →
      (∀ (before after : List TxNote) (n : TxNote) (tags : List Half) (surplus : Nat),
        s.xmt.buffer = before ++ n :: after → n.content = .accuse accused k tags surplus → n.state = .waiting →
        (∀ m ∈ before, ¬ (m.state = .waiting ∧ ∃ ts n, m.content = .accuse accused k ts n)) →
        (t ∈ tags → s.announce accused k t = s) ∧
        (t ∉ tags → tags.length < 6 → s.announce accused k t =
          s.setBuffer (before ++ { n with content := .accuse accused k (tags ++ [t]) surplus } :: after)) ∧
        (t ∉ tags → 6 ≤ tags.length → surplus < 255 → s.announce accused k t =
          s.setBuffer (before ++ { n with content := .accuse accused k tags (surplus + 1) } :: after)) ∧
        (t ∉ tags → 6 ≤ tags.length → surplus = 255 → s.announce accused k t = s.latchFlag noteDropped)) ∧
      ((∀ m ∈ s.xmt.buffer, ¬ (m.state = .waiting ∧ ∃ ts n, m.content = .accuse accused k ts n)) →
        let use := fun p => (s.xmt.buffer.filter fun n => decide (n.pool = p)).length
        let queued := fun p => s.setBuffer (s.xmt.buffer ++
          [{ content := .accuse accused k [t] 0, pool := p, state := .waiting, seq := none, attempts := 0, noRetry := false }])
        (use .accuse < 3 → s.announce accused k t = queued .accuse) ∧
        (3 ≤ use .accuse → use .shared < 9 → s.announce accused k t = queued .shared) ∧
        (3 ≤ use .accuse → 9 ≤ use .shared → s.announce accused k t = s.latchFlag noteDropped)))

/-- Additions to the pending list (R28, R29, R31, R26): a tagged entry whose accuser, accused and tag the list holds is not added, whatever
its kind; a surplus whose accuser, accused and kind the list holds untagged is added to that entry's count, held at 255; any other is
put at the tail with the current epoch as stamp, after early promotion of the oldest entry where 48 are held; a slot outside 1 to 24
adds nothing. Early promotion applies the oldest entry, evaluates its accused and removes it. An addition taken between a boundary and
the Evidence Engine's work at it bears the old epoch (R48, Log 23). -/
def Obligations.PendingEntriesAreAdded : Prop :=
  ∀ (s : State) (c : ConfigRecord) (accuser accused : Nat) (k : AccKind) (t : Half) (n : Nat),
    let epoch := if s.due.evidence = 1 then s.ctl.epoch - 1 else s.ctl.epoch
    let appended := fun (load : Load) (u : State) => u.setAccusations (u.eng.accusations ++
      [{ accuser := accuser, accused := accused, kind := k, load := load, stamp := epoch }])
    (¬ (1 ≤ accuser ∧ accuser ≤ 24 ∧ 1 ≤ accused ∧ accused ≤ 24) →
      s.addTagged c accuser accused k t = s ∧ s.addSurplus c accuser accused k n = s) ∧
    (1 ≤ accuser → accuser ≤ 24 → 1 ≤ accused → accused ≤ 24 →
      ((∃ e ∈ s.eng.accusations, e.accuser = accuser ∧ e.accused = accused ∧ e.load = .tagged t) →
        s.addTagged c accuser accused k t = s) ∧
      ((∀ e ∈ s.eng.accusations, ¬ (e.accuser = accuser ∧ e.accused = accused ∧ e.load = .tagged t)) →
        (s.eng.accusations.length < 48 → s.addTagged c accuser accused k t = appended (.tagged t) s) ∧
        (48 ≤ s.eng.accusations.length → s.addTagged c accuser accused k t = appended (.tagged t) (s.promote c))) ∧
      (∀ (before after : List Accusation) (e : Accusation) (m : Nat), s.eng.accusations = before ++ e :: after →
        e.accuser = accuser → e.accused = accused → e.kind = k → e.load = .untagged m →
        (∀ f ∈ before ++ after, ¬ (f.accuser = accuser ∧ f.accused = accused ∧ f.kind = k ∧ ∃ j, f.load = .untagged j)) →
        s.addSurplus c accuser accused k n =
          s.setAccusations (before ++ { e with load := .untagged (min 255 (m + n)) } :: after)) ∧
      ((∀ e ∈ s.eng.accusations, ¬ (e.accuser = accuser ∧ e.accused = accused ∧ e.kind = k ∧ ∃ j, e.load = .untagged j)) →
        (s.eng.accusations.length < 48 → s.addSurplus c accuser accused k n = appended (.untagged n) s) ∧
        (48 ≤ s.eng.accusations.length → s.addSurplus c accuser accused k n = appended (.untagged n) (s.promote c)))) ∧
    (∀ (e : Accusation) (rest : List Accusation), s.eng.accusations = e :: rest →
      s.promote c = (s.applyAndEvaluate c e.accuser e.accused (evidenceOf e.kind) e.count).setAccusations rest)

/-! ### Evidence and standings -/

/-- The application of one item of evidence (R38, with R39's reading of probation and R41's witness update): the weight of its kind,
halved and at least 1 where witness and accused are correlated, doubled on probation, times the count, added to the score and held at
4095. The product lies from 1 to 130050; an odd weight of 3 or more, halved and doubled, is one less than the full weight. Nothing but the
accused record changes; an item outside 1 to 24 is discarded (R26). An item taken between a boundary and the Evidence Engine's work at it
has the old epoch number as its witness epoch (R48, Log 23). -/
def Obligations.ItemOfEvidenceIsScored : Prop :=
  ∀ (s : State) (c : ConfigRecord) (w a : Nat) (k : EvidenceKind) (n : Nat), Tables s →
    let weight := match k with | .miss => c.wMiss | .corrupt => c.wCorrupt | .rebutted => c.wRebut | .babble => c.wBabble
    let halved := if w ≠ a ∧ zoneKey c.zoneMask w = zoneKey c.zoneMask a then (if weight / 2 = 0 then 1 else weight / 2) else weight
    let doubled := if 0 < (s.record a).probation then halved * 2 else halved
    let epoch := if s.due.evidence = 1 then s.ctl.epoch - 1 else s.ctl.epoch
    let item := doubled * n
    (1 ≤ w → w ≤ 24 → 1 ≤ a → a ≤ 24 →
      s.applyItem c w a k n = s.setRecord a
        { s.record a with
          score := if 4095 < (s.record a).score + item then 4095 else (s.record a).score + item,
          witnesses := witnessUpdate epoch w (zoneKey c.zoneMask w) (s.record a).witnesses }) ∧
    (¬ (1 ≤ w ∧ w ≤ 24 ∧ 1 ≤ a ∧ a ≤ 24) → s.applyItem c w a k n = s) ∧
    (ConfigSound c → 1 ≤ n → n ≤ 255 → 1 ≤ item ∧ item ≤ 130050) ∧
    (w ≠ a → zoneKey c.zoneMask w = zoneKey c.zoneMask a → 0 < (s.record a).probation → 3 ≤ weight → weight % 2 = 1 →
      doubled = weight - 1)

/-- The witness update (R41): an entry for the witness is refreshed; without one, and with fewer than 8 entries, one is added; with 8, the
entry with the oldest last application, the lowest slot of those that tie, is replaced. The set stays ordered by slot. -/
def Obligations.WitnessIsRecorded : Prop :=
  ∀ (now : Half) (w key : Nat) (ws : List Witness), ws.Pairwise (fun v u => v.slot < u.slot) → ws.length ≤ 8 →
    let after := witnessUpdate now w key ws
    let fresh : Witness := { slot := w, key := key, epoch := now }
    let age := fun v : Witness => (now - v.epoch).toNat
    after.Pairwise (fun v u => v.slot < u.slot) ∧ after.length ≤ 8 ∧
    ((∃ v ∈ ws, v.slot = w) → after = ws.map fun v => if v.slot = w then { v with epoch := now } else v) ∧
    ((∀ v ∈ ws, v.slot ≠ w) → ws.length < 8 → ∀ v, v ∈ after ↔ v ∈ ws ∨ v = fresh) ∧
    ((∀ v ∈ ws, v.slot ≠ w) → ws.length = 8 →
      ∃ o ∈ ws, (∀ v ∈ ws, age v < age o ∨ (age v = age o ∧ o.slot ≤ v.slot)) ∧
        ∀ v, v ∈ after ↔ (v ∈ ws ∧ v ≠ o) ∨ v = fresh)

/-- Zone keys and correlation (R37): with a nonzero mask the zone key is the slot number with every bit that is clear in the mask cleared,
with mask 0 the slot number itself; a witness and an accused are correlated when they differ and their keys are equal; a witness is never
correlated with itself. From CONFIGURE on no command but a reset changes the record that holds the mask. -/
def Obligations.ZoneKeysAndCorrelation : Prop :=
  (∀ (mask : BitVec 5) (slot : Nat), mask ≠ 0 → slot ≤ 24 →
    ∀ i, (zoneKey mask slot).testBit i = (slot.testBit i && mask.getLsbD i)) ∧
  (∀ slot : Nat, zoneKey 0 slot = slot) ∧
  (∀ (c : ConfigRecord) (w a : Nat), correlated c w a = true ↔ w ≠ a ∧ zoneKey c.zoneMask w = zoneKey c.zoneMask a) ∧
  (∀ (c : ConfigRecord) (w : Nat), correlated c w w = false) ∧
  (∀ (i : Instr) (s t : State) (c : ConfigRecord), exec i s = .next t → isReset i = false → s.ctl.config = some c →
    s.ctl.station ≠ .unconfigured → t.ctl.config = some c)

/-- The independent-zone count (R45): the number of distinct zone keys among the witnesses that are neither the accused nor in its zone. It
never passes the number of witnesses, and with zone mask 0 it is the number of witnesses other than the accused. -/
def Obligations.IndependentZonesAreCounted : Prop :=
  ∀ (c : ConfigRecord) (a : Nat) (ws : List Witness),
    independentZones c a ws =
      (((ws.filter fun w => decide (w.slot ≠ a ∧ w.key ≠ zoneKey c.zoneMask a)).map Witness.key).toFinset).card ∧
    independentZones c a ws ≤ ws.length ∧
    (c.zoneMask = 0 → ws.Pairwise (fun v u => v.slot < u.slot) → (∀ w ∈ ws, w.key = w.slot) →
      independentZones c a ws = (ws.filter fun w => decide (w.slot ≠ a)).length)

/-- The evaluation of a standing (R53, R54, R55, R57, R87): a CONDEMNED record stays; the condemnation test comes first; else Table 3-2.
The quorum-short flag is reassessed; a change has cause EVIDENCE and posts one STANDING notice; the own record becoming CONDEMNED then
hands over the quarantine trigger with its zone count. That the trigger is taken at once, inside the evaluation, is the model's reading
of R87 and R90: DEDUCED, Log 9. -/
def Obligations.StandingIsEvaluated : Prop :=
  ∀ (s : State) (c : ConfigRecord) (x : Nat), Tables s → 1 ≤ x → x ≤ 24 →
    let r := s.record x
    let z := independentZones c x r.witnesses
    let flag := decide (c.tCondemn ≤ r.score ∧ z < c.quorum)
    let stays := s.evaluate c x = s.setRecord x { r with quorumShort := flag }
    let becomes := fun new : Standing =>
      let t := (s.setRecord x { r with quorumShort := flag, standing := new, cause := some .evidence }).post
        (.standing x r.standing new .evidence)
      s.evaluate c x = if x = s.ownSlot ∧ new = .condemned then t.takeTrigger c .evidence z else t
    let quorate := c.tCondemn ≤ r.score ∧ c.quorum ≤ z
    (r.standing = .condemned → stays) ∧
    (r.standing ≠ .condemned → quorate → becomes .condemned) ∧
    (¬ quorate →
      (r.standing = .clear → c.tSuspect ≤ r.score → becomes .suspect) ∧
      (r.standing = .clear → c.tWatch ≤ r.score → r.score < c.tSuspect → becomes .watched) ∧
      (r.standing = .clear → r.score < c.tWatch → r.score < c.tSuspect → stays) ∧
      (r.standing = .watched → c.tSuspect ≤ r.score → becomes .suspect) ∧
      (r.standing = .watched → r.score < c.tClear → r.score < c.tSuspect → becomes .clear) ∧
      (r.standing = .watched → c.tClear ≤ r.score → r.score < c.tSuspect → stays) ∧
      (r.standing = .suspect → r.score < c.tClear → becomes .clear) ∧
      (r.standing = .suspect → c.tClear ≤ r.score → r.score < c.tWatch → becomes .watched) ∧
      (r.standing = .suspect → c.tClear ≤ r.score → c.tWatch ≤ r.score → stays))

/-- A quarantine trigger (R90, R91, R92, R93): in RUNNING the state becomes QUARANTINED, the latch is set in ENFORCE, a QUARANTINE notice is
posted and the ACCUSE and REBUT notes are discarded but for one under way, which is not to be retried; in ENROLLING it is held over; in
MUTE it sets a clear latch in ENFORCE with a LATCH_SET notice; in QUARANTINED nothing follows. -/
def Obligations.QuarantineTriggerIsTaken : Prop :=
  ∀ (s : State) (c : ConfigRecord) (k : Trigger) (z : Nat),
    (s.ctl.station = .running →
      s.takeTrigger c k z =
        let latch := s.ctl.latch || decide (c.fence = .enforce)
        let t := ({ s with ctl := { s.ctl with station := .quarantined, latch := latch } }).post (.quarantine .entered k latch z)
        t.setBuffer (s.xmt.buffer.filterMap fun n =>
          if n.content.kind = .accuse ∨ n.content.kind = .rebut then
            if n.state = .underWay then some { n with noRetry := true } else none
          else some n)) ∧
    (s.ctl.station = .enrolling → s.takeTrigger c k z = { s with ctl := { s.ctl with held := some { kind := k, zones := z } } }) ∧
    (s.ctl.station = .quarantined → s.takeTrigger c k z = s) ∧
    (∀ r, s.ctl.station = .mute r →
      (c.fence = .enforce → s.ctl.latch = false →
        s.takeTrigger c k z = ({ s with ctl := { s.ctl with latch := true } }).post (.quarantine .latchSet k true z)) ∧
      (c.fence = .report ∨ s.ctl.latch = true → s.takeTrigger c k z = s))

/-- One evaluation of the peer-condemnation quorum (R88, R89): the peers that count are PRESENT, MATCHED, untainted and list the own slot;
it is met when their zone keys, the own key left out, include Q distinct values. Met, with the own record not CONDEMNED, it condemns the
own record with cause PEER_QUORUM and one STANDING notice and hands over the trigger; else nothing changes. That the trigger is taken at
once, inside the quorum evaluation, is the model's reading of R87 and R90: DEDUCED, Log 9. That it carries the whole count, above 8 too,
is the model's choice: DESIGN CHOICE, Log 7. -/
def Obligations.PeerQuorumIsEvaluated : Prop :=
  ∀ (s : State) (c : ConfigRecord), Tables s → 1 ≤ s.ownSlot → s.ownSlot ≤ 24 →
    let counts := fun x : Nat => 1 ≤ x ∧ x ≤ 24 ∧ x ≠ s.ownSlot ∧ (s.entry x).condemnsMe = true ∧ (s.entry x).presence = .present ∧
      (s.entry x).matched = true ∧ (s.entry x).quarantined = false ∧ (s.record x).standing ≠ .condemned
    ∀ keys : Finset Nat,
      (∀ key, key ∈ keys ↔ key ≠ zoneKey c.zoneMask s.ownSlot ∧ ∃ x, counts x ∧ zoneKey c.zoneMask x = key) →
      let r := s.record s.ownSlot
      (c.quorum ≤ keys.card → r.standing ≠ .condemned →
        s.peerQuorum c =
          ((s.setRecord s.ownSlot { r with standing := .condemned, cause := some .peerQuorum }).post
            (.standing s.ownSlot r.standing .condemned .peerQuorum)).takeTrigger c .peerQuorum keys.card) ∧
      (keys.card < c.quorum ∨ r.standing = .condemned → s.peerQuorum c = s)

/-! ### Flags and notices -/

/-- A flag's condition sets its bit of Table 11-10 and the re-latch mark (R161, R162). A notice is appended with the epoch number and the
mark clear while fewer than 32 are held; on a full queue it is discarded, the newest stored notice is marked and NOTICE_OVERRUN latched
(R164). ALERT_N is low exactly while a notice is held (R166). -/
def Obligations.FlagsAndNoticesArePosted : Prop :=
  [tapGarbled, tapOverrun, samplingSaturated, noteDropped, xmitTroubleFlag, rxGarbled, noticeOverrun].map BitVec.toNat =
    [1, 2, 4, 8, 16, 32, 64] ∧
  (∀ (s : State) (f : BitVec 7),
    s.latchFlag f = { s with lnk := { s.lnk with flags := s.lnk.flags ||| f, relatched := s.lnk.relatched ||| f } }) ∧
  (∀ (s : State) (b : NoticeBody),
    (s.lnk.notices.length < 32 →
      s.post b = { s with lnk := { s.lnk with
        notices := s.lnk.notices ++ [{ body := b, epoch := s.ctl.epoch, overrun := false }] } }) ∧
    (∀ (older : List Notice) (newest : Notice), s.lnk.notices = older ++ [newest] → 32 ≤ s.lnk.notices.length →
      s.post b = ({ s with lnk := { s.lnk with notices := older ++ [{ newest with overrun := true }] } }).latchFlag noticeOverrun)) ∧
  (∀ s : State, s.alertN = false ↔ ∃ n, n ∈ s.lnk.notices)

/-! ### The clock -/

/-- The 1 ms tick, the class ticks and the epoch boundary (R150, R13, R14), the latter two each where it has fallen (Log 4). The count
advances modulo 65536; the class ticks whose period divides it and the epoch boundary, where the epoch length divides it, fall due. A
class tick makes every entry of the class older by 1 and changes no other entry. The boundary advances the epoch number modulo 65536 and
tells every block that works at one. With no record stored the clock is stopped; where a tick or boundary has not fallen there is none. -/
def Obligations.TicksAndBoundariesFall : Prop :=
  ∀ s : State,
    (s.ctl.config = none → exec .msTick s = .next s) ∧
    (∀ c, s.ctl.config = some c → Quiet s → s.due = Due.none →
      let count := (s.ctl.msCount.toNat + 1) % 65536
      exec .msTick s = .next
        { s with ctl := { s.ctl with msCount := BitVec.ofNat 16 count },
                 due := { Due.none with
                   classTicks := ([0, 1, 2, 3] : List (Fin 4)).filter fun k =>
                     decide (c.timeouts.getD k.val 0 ≠ 0 ∧ count % 2 ^ (c.timeouts.getD k.val 0 - 1) = 0),
                   boundary := decide (count % (64 * 2 ^ c.epochCode) = 0) } }) ∧
    (∀ cls : Fin 4, Quiet s →
      (cls ∈ s.due.classTicks →
        exec (.classTick cls) s = .next
          { s with trk := { s.trk with oet := s.trk.oet.map fun e => if e.cls = cls.val then { e with age := e.age + 1 } else e },
                   due := { s.due with classTicks := s.due.classTicks.filter fun k => decide (k ≠ cls) } }) ∧
      (cls ∉ s.due.classTicks → exec (.classTick cls) s = .next s)) ∧
    (Quiet s →
      (s.due.boundary = true →
        exec .epochBoundary s = .next
          { s with ctl := { s.ctl with epoch := BitVec.ofNat 16 ((s.ctl.epoch.toNat + 1) % 65536) },
                   due := { run := [], classTicks := s.due.classTicks, boundary := false, blind := true, evidence := 1, receiver := 1,
                            transmitter := true, enrolment := decide (s.ctl.station = .enrolling) } }) ∧
      (s.due.boundary = false → exec .epochBoundary s = .next s))

/-- An expiry (R14, R15, R6, R11): the oldest entry whose age has reached 4 is removed and the level reassessed; unless the station is
blind a MISS is observed, against the peer for an OUTBOUND entry and against the own slot for an INBOUND one. With no such entry the
command has no effect: the model's choice, Log 1. The age 4 that marks an expiry still to be carried out is the model's: Log 5. -/
def Obligations.OldestExpiringEntryIsRemoved : Prop :=
  ∀ (s : State) (c : ConfigRecord), s.ctl.config = some c → s.due.run = [] →
    ((∀ e ∈ s.trk.oet, e.age < 4) → exec .oetEntryExpiry s = .next s) ∧
    (∀ (before after : List OetEntry) (e : OetEntry), s.trk.oet = before ++ e :: after → (∀ f ∈ before, f.age < 4) → 4 ≤ e.age →
      let left := { s with trk := { s.trk with
        oet := before ++ after,
        level := if (before ++ after).length ≤ c.low ∧ 0 < s.trk.level then s.trk.level - 1 else s.trk.level } }
      (0 < s.trk.blind → exec .oetEntryExpiry s = .next left) ∧
      (s.trk.blind = 0 →
        exec .oetEntryExpiry s =
          .next (left.observe c (match e.dir with | .outbound => e.peer | .inbound => s.ownSlot) .miss e.tag)))

/-- The clock fault (R154, R153, R23, R127, R92): found only while the monitor is armed and the tick comes from CLKIN. The tick moves to the
RC oscillator. ENROLLING, RUNNING and QUARANTINED become MUTE(CLOCK_FAULT), with the buffer emptied, the tracker dropped and a MUTED
notice, and on leaving ENROLLING with the own record CONDEMNED the held-over trigger is handled in MUTE; in MUTE the reason changes, with
a MUTED notice. -/
def Obligations.ClockFaultMutesTheStation : Prop :=
  ∀ (s : State) (c : ConfigRecord), Quiet s → s.ctl.config = some c →
    (s.ctl.monitorArmed = false ∨ s.ctl.tickSource = .rc → exec .clockFault s = .next s) ∧
    (s.ctl.monitorArmed = true → s.ctl.tickSource = .clkin →
      let muted := ({ s with
        ctl := { s.ctl with tickSource := .rc, station := .mute .clockFault, held := none },
        xmt := { s.xmt with buffer := [] },
        trk := { tapFifo := [], blind := 0, level := 0, oet := [], satMark := false, answers := [] } }).post
          (.muted .clockFault (some s.ctl.station) s.ctl.latch)
      (s.ctl.station = .running ∨ s.ctl.station = .quarantined → exec .clockFault s = .next muted) ∧
      (s.ctl.station = .enrolling → s.ctl.held = none ∨ (s.record s.ownSlot).standing ≠ .condemned →
        exec .clockFault s = .next muted) ∧
      (∀ h, s.ctl.station = .enrolling → s.ctl.held = some h → 1 ≤ s.ownSlot → s.ownSlot ≤ 24 →
        (s.record s.ownSlot).standing = .condemned → exec .clockFault s = .next (muted.takeTrigger c h.kind h.zones)) ∧
      (∀ r, s.ctl.station = .mute r →
        exec .clockFault s = .next
          (({ s with ctl := { s.ctl with tickSource := .rc, station := .mute .clockFault } }).post
            (.muted .clockFault (some (.mute r)) s.ctl.latch))))

/-! ### Boundary work -/

/-- What is still to do of the Evidence Engine's five steps at a boundary (R47), from the step that its work has come to (1 where it has
not been begun, 2 to 5 after an event within it; the numbers are the model's, Log 5), record by record: decay to ⌊S · (1 − 2^−d)⌋ (R46); witness entries whose age has
reached E removed (R44); every entry whose stamp plus 2 is the epoch number applied in list order and removed (R32); one evaluation
(R52); probation lowered by 1 (R66). Each changed record posts one STANDING notice, in slot order (R47, R57); where the queue has room no
flag changes. The tracker, the roster and the other blocks' marks stay. Where the own record is newly CONDEMNED the controller and the
buffer become what the trigger makes of them (R87, R90 to R92), whose notice follows the own STANDING notice, the trigger being taken at
once (Log 9); else they stay. Where no such work is due the command has no effect (Log 1). -/
def Obligations.EvidenceBoundaryWorkIsDone : Prop :=
  ∀ (s : State) (c : ConfigRecord), s.ctl.config = some c → (∀ e ∈ s.trk.oet, e.age < 4) → s.due.receiver ≤ 1 → s.due.run = [] →
    Tables s → (∀ e ∈ s.eng.accusations, isSlot e.accuser = true ∧ isSlot e.accused = true) →
    let next := s.due.evidence
    (next = 0 → exec .evidenceBoundaryWork s = .next s) ∧
    (1 ≤ next → next ≤ 5 → ∃ t, exec .evidenceBoundaryWork s = .next t ∧
      t.due = { s.due with evidence := 0 } ∧ t.trk = s.trk ∧ t.rcv = s.rcv ∧ t.choices = s.choices ∧
      t.eng.accusations =
        (if next ≤ 3 then s.eng.accusations.filter fun e => decide (e.stamp + 2 ≠ s.ctl.epoch) else s.eng.accusations) ∧
      (∀ x, 1 ≤ x → x ≤ 24 →
        let r := s.record x
        let aged := { r with
          score := if next = 1 then r.score * (2 ^ c.decay - 1) / 2 ^ c.decay else r.score,
          witnesses := if next ≤ 2 then r.witnesses.filter fun w => decide ((s.ctl.epoch - w.epoch).toNat < c.expiry) else r.witnesses }
        let u := if next ≤ 3 then
            (s.eng.accusations.filter fun e => decide (e.stamp + 2 = s.ctl.epoch ∧ e.accused = x)).foldl
              (fun v e => appliedRecord c s.ctl.epoch e.accuser x (evidenceOf e.kind) e.count v) aged
          else aged
        let z := independentZones c x u.witnesses
        let new := newStanding c u.standing u.score z
        let judged := { u with standing := new, cause := if new = u.standing then u.cause else some .evidence,
                               quorumShort := decide (c.tCondemn ≤ u.score ∧ z < c.quorum) }
        t.record x = { (if next ≤ 4 then judged else u) with probation := r.probation - 1 }) ∧
      let condemned := isSlot s.ownSlot = true ∧ (s.record s.ownSlot).standing ≠ .condemned ∧ (t.record s.ownSlot).standing = .condemned
      let triggered := fun u : State => u.takeTrigger c .evidence (independentZones c s.ownSlot (t.record s.ownSlot).witnesses)
      (¬ condemned → t.ctl = s.ctl ∧ t.xmt = s.xmt) ∧
      (condemned → t.ctl = (triggered s).ctl ∧ t.xmt = (triggered s).xmt) ∧
      (let follows := (triggered { s with lnk := { s.lnk with notices := [] } }).lnk.notices
       let posted := (List.range' 1 24).flatMap fun x =>
         (if (t.record x).standing = (s.record x).standing then []
          else [{ body := .standing x (s.record x).standing (t.record x).standing .evidence, epoch := s.ctl.epoch, overrun := false }]) ++
         (if condemned ∧ x = s.ownSlot then follows else [])
       s.lnk.notices.length + posted.length ≤ 32 → t.lnk = { s.lnk with notices := s.lnk.notices ++ posted }))

/-- The events inside the Evidence Engine's boundary work, each taken where the work has come to its step (Log 5): the removal of one
expired witness entry (R44), the application and removal of the oldest due entry (R32), the last epoch of a probation (R66). Where the
work stands before that step, the steps before it come first: decay, the removal of expired witness entries, the application of due
entries, the evaluation of every record. -/
def Obligations.EvidenceBoundaryEventsAreTaken : Prop :=
  ∀ (s : State) (c : ConfigRecord) (x w : Nat), s.ctl.config = some c → (∀ e ∈ s.trk.oet, e.age < 4) → s.due.receiver ≤ 1 →
    s.due.run = [] → Tables s → 1 ≤ x → x ≤ 24 →
    let expired := ∃ v ∈ (s.record x).witnesses, v.slot = w ∧ c.expiry ≤ (s.ctl.epoch - v.epoch).toNat
    let stepsBefore := fun step : Nat =>
      let marked := s.setEvidenceDue step
      let decayed := if s.due.evidence = 1 then marked.decayScores c else marked
      let unwitnessed := if s.due.evidence ≤ 2 then decayed.expireWitnesses c else decayed
      let applied := if s.due.evidence ≤ 3 ∧ 3 < step then unwitnessed.applyDue c else unwitnessed
      if s.due.evidence ≤ 4 ∧ 4 < step then applied.evaluateAll c else applied
    (s.due.evidence = 2 → expired →
      exec (.witnessExpiry x w) s = .next (s.setRecord x
        { s.record x with witnesses := (s.record x).witnesses.filter fun v => decide (v.slot ≠ w) })) ∧
    (s.due.evidence = 1 → expired →
      exec (.witnessExpiry x w) s = exec (.witnessExpiry x w) ((s.decayScores c).setEvidenceDue 2)) ∧
    (s.due.evidence = 0 ∨ 3 ≤ s.due.evidence ∨ ¬ expired → exec (.witnessExpiry x w) s = .next s) ∧
    (∀ (before after : List Accusation) (e : Accusation), s.eng.accusations = before ++ e :: after →
      (∀ f ∈ before, f.stamp + 2 ≠ s.ctl.epoch) → e.stamp + 2 = s.ctl.epoch →
      (s.due.evidence = 3 →
        exec .pendingEntryDue s =
          .next ((s.applyItem c e.accuser e.accused (evidenceOf e.kind) e.count).setAccusations (before ++ after))) ∧
      (s.due.evidence = 1 ∨ s.due.evidence = 2 →
        exec .pendingEntryDue s = exec .pendingEntryDue (stepsBefore 3))) ∧
    ((∀ e ∈ s.eng.accusations, e.stamp + 2 ≠ s.ctl.epoch) ∨ s.due.evidence = 0 ∨ 4 ≤ s.due.evidence →
      exec .pendingEntryDue s = .next s) ∧
    ((s.record x).probation = 1 →
      (s.due.evidence = 5 → exec (.probationEnd x) s = .next (s.setRecord x { s.record x with probation := 0 })) ∧
      (1 ≤ s.due.evidence → s.due.evidence ≤ 4 → exec (.probationEnd x) s = exec (.probationEnd x) (stepsBefore 5))) ∧
    ((s.record x).probation ≠ 1 ∨ s.due.evidence = 0 ∨ 6 ≤ s.due.evidence → exec (.probationEnd x) s = .next s)

/-- What is still to do of the Note Receiver's four steps at a boundary (R141, R139), from the step that its work has come to (1 where it
has not been begun, 2 to 4 after an event within it; the numbers are the model's, Log 5), entry by entry: the notes-accepted count becomes 0, the mute remaining falls
by 1, the lapse counter of a PRESENT peer advances and at L the peer becomes LAPSED; its PRESENCE notices stand in slot order where the
queue has room (Log 15); then the peer quorum is evaluated. Where no such work is due the command has no effect (Log 1). -/
def Obligations.ReceiverBoundaryWorkIsDone : Prop :=
  ∀ (s : State) (c : ConfigRecord), s.ctl.config = some c → (∀ e ∈ s.trk.oet, e.age < 4) → s.due.evidence ≤ 1 → s.due.run = [] →
    Tables s →
    let next := s.due.receiver
    let advancing := fun x : Nat => next ≤ 3 ∧ x ≠ s.ownSlot ∧ (s.entry x).presence = .present
    let lapses := (List.range' 1 24).filter fun x => decide (advancing x ∧ c.lapse ≤ (s.entry x).lapse + 1)
    (next = 0 → exec .noteReceiverBoundaryWork s = .next s) ∧
    (1 ≤ next → next ≤ 4 → ∃ u : State,
      exec .noteReceiverBoundaryWork s = .next ((u.peerQuorum c).setReceiverDue 0) ∧
      u = { s with rcv := u.rcv, lnk := u.lnk } ∧ u.rcv = { s.rcv with roster := u.rcv.roster } ∧ u.rcv.roster.length = 24 ∧
      (∀ x, 1 ≤ x → x ≤ 24 →
        let e := s.entry x
        u.entry x =
          { e with accepted := if next = 1 then 0 else e.accepted, mute := if next ≤ 2 then e.mute - 1 else e.mute,
                   lapse := if advancing x then e.lapse + 1 else e.lapse,
                   presence := if x ∈ lapses then .lapsed else e.presence }) ∧
      (s.lnk.notices.length + lapses.length ≤ 32 →
        u.lnk.notices = s.lnk.notices ++
          (lapses.map fun x => { body := .presence x .present .lapsed, epoch := s.ctl.epoch, overrun := false }) ∧
        u.lnk = { s.lnk with notices := u.lnk.notices }))

/-- The events inside the Note Receiver's boundary work, each taken where the work has come to its step (Log 5): the last epoch of a mute
(R141) and a lapse (R139). Where the work stands before that step, the steps before it come first: the counts cleared, the mutes lowered. -/
def Obligations.ReceiverBoundaryEventsAreTaken : Prop :=
  ∀ (s : State) (c : ConfigRecord) (x : Nat), s.ctl.config = some c → (∀ e ∈ s.trk.oet, e.age < 4) → s.due.evidence ≤ 1 →
    s.due.run = [] → Tables s → 1 ≤ x → x ≤ 24 →
    let e := s.entry x
    let lapsing := x ≠ s.ownSlot ∧ e.presence = .present ∧ c.lapse ≤ e.lapse + 1
    (e.mute = 1 →
      (s.due.receiver = 2 → exec (.muteEnd x) s = .next (s.setEntry x { e with mute := 0 })) ∧
      (s.due.receiver = 1 → exec (.muteEnd x) s = exec (.muteEnd x) (s.clearCounts.setReceiverDue 2))) ∧
    (e.mute ≠ 1 ∨ s.due.receiver = 0 ∨ 3 ≤ s.due.receiver → exec (.muteEnd x) s = .next s) ∧
    (lapsing →
      (s.due.receiver = 3 →
        exec (.lapse x) s =
          .next ((s.setEntry x { e with lapse := e.lapse + 1, presence := .lapsed }).post (.presence x .present .lapsed))) ∧
      (s.due.receiver = 1 → exec (.lapse x) s = exec (.lapse x) (s.clearCounts.lowerMutes.setReceiverDue 3)) ∧
      (s.due.receiver = 2 → exec (.lapse x) s = exec (.lapse x) (s.lowerMutes.setReceiverDue 3))) ∧
    (¬ lapsing ∨ s.due.receiver = 0 ∨ 4 ≤ s.due.receiver → exec (.lapse x) s = .next s)

/-- The Exchange Tracker's and the Note Transmitter's boundary work, each where it is due: the blind-period counter falls by 1 where it is
above 0 (R6); the budget is set to B, and in RUNNING and QUARANTINED a BEACON without content is queued where the beacon slot is free
(R122, R124). Where the work is not due the commands have no effect: the model's choice, Log 1 and Log 4. -/
def Obligations.TrackerAndTransmitterBoundaryWork : Prop :=
  ∀ (s : State) (c : ConfigRecord), Quiet s → s.ctl.config = some c →
    let free := ∀ n ∈ s.xmt.buffer, n.pool ≠ .beacon
    let beacon : TxNote := { content := .beacon none, pool := .beacon, state := .waiting, seq := none, attempts := 0, noRetry := false }
    let refilled := fun buffer => { s with xmt := { s.xmt with budget := c.budget, buffer := buffer },
                                           due := { s.due with transmitter := false } }
    let sends := s.ctl.station = .running ∨ s.ctl.station = .quarantined
    (s.due.blind = true →
      exec .blindPeriodEnd s = .next { s with trk := { s.trk with blind := s.trk.blind - 1 }, due := { s.due with blind := false } }) ∧
    (s.due.blind = false → exec .blindPeriodEnd s = .next s) ∧
    (s.due.transmitter = true → sends → free →
      exec .noteTransmitterBoundaryWork s = .next (refilled (s.xmt.buffer ++ [beacon]))) ∧
    (s.due.transmitter = true → ¬ (sends ∧ free) → exec .noteTransmitterBoundaryWork s = .next (refilled s.xmt.buffer)) ∧
    (s.due.transmitter = false → exec .noteTransmitterBoundaryWork s = .next s)

/-- The enrolment step (R151, R125): at the boundaries that bring the period to 1, 2 and 3 it advances and an ENROL of the own serial, role
and digest is queued where the beacon slot is free. That END_OF_ENROLMENT names no event before the third, and that neither command has an
effect where the step is not due, is the model's choice: Log 1 and Log 4. -/
def Obligations.EnrolmentStepAsksForAnEnrol : Prop :=
  ∀ (s : State) (c : ConfigRecord) (d : Half), Quiet s → s.ctl.config = some c → s.ctl.digest = some d →
    let free := ∀ n ∈ s.xmt.buffer, n.pool ≠ .beacon
    let enrol : TxNote := { content := .enrol s.ctl.serial s.ctl.role d, pool := .beacon, state := .waiting, seq := none, attempts := 0,
                            noRetry := false }
    let advanced := fun buffer => { s with ctl := { s.ctl with enrolCount := s.ctl.enrolCount + 1 }, xmt := { s.xmt with buffer := buffer },
                                           due := { s.due with enrolment := false } }
    (s.due.enrolment = true → s.ctl.station = .enrolling → s.ctl.enrolCount < 3 →
      (free → exec .enrolmentStep s = .next (advanced (s.xmt.buffer ++ [enrol]))) ∧
      (¬ free → exec .enrolmentStep s = .next (advanced s.xmt.buffer)) ∧
      exec .endOfEnrolment s = .next s) ∧
    (s.ctl.station ≠ .enrolling → exec .enrolmentStep s = .next { s with due := { s.due with enrolment := false } }) ∧
    (s.due.enrolment = false → exec .enrolmentStep s = .next s ∧ exec .endOfEnrolment s = .next s)

/-- The end of enrolment (R152, R91, R105, R124): at the boundary that brings the period to 4, a MISMATCHED count above the MATCHED count of
PRESENT peers gives MUTE(CONFIG_MINORITY) by R153; else a CONDEMNED own record gives QUARANTINED with its held-over trigger, and else a
set latch QUARANTINED with trigger RESTORED; else RUNNING. A CONDEMNED own record without a held-over trigger gives the record's cause and
no zones (Log 19). A waiting ENROL is discarded, one under way not retried, and a BEACON queued.
ENROLMENT_STEP and END_OF_ENROLMENT name the same step here. -/
def Obligations.EndOfEnrolmentDecides : Prop :=
  ∀ (s : State) (c : ConfigRecord), Quiet s → s.ctl.config = some c → s.due.enrolment = true → s.ctl.station = .enrolling →
    s.ctl.enrolCount = 3 → Tables s → 1 ≤ s.ownSlot → s.ownSlot ≤ 24 →
    let peers := fun matched => ((List.range' 1 24).filter fun x =>
      decide (x ≠ s.ownSlot ∧ (s.entry x).presence = .present ∧ (s.entry x).matched = matched)).length
    let ended := { s with ctl := { s.ctl with enrolCount := 4, held := none }, due := { s.due with enrolment := false } }
    let kept := s.xmt.buffer.filterMap fun n =>
      if n.content.kind = .enrol then (if n.state = .underWay then some { n with noRetry := true } else none) else some n
    let beacon : TxNote := { content := .beacon none, pool := .beacon, state := .waiting, seq := none, attempts := 0, noRetry := false }
    let started := fun u : State => u.setBuffer (if ∀ n ∈ kept, n.pool ≠ .beacon then kept ++ [beacon] else kept)
    let quarantined := fun (k : Trigger) (z : Nat) =>
      let latch := s.ctl.latch || decide (c.fence = .enforce)
      ({ ended with ctl := { ended.ctl with station := .quarantined, latch := latch } }).post (.quarantine .entered k latch z)
    let minority := ({ ended with
      ctl := { ended.ctl with station := .mute .configMinority }, xmt := { s.xmt with buffer := [] },
      trk := { tapFifo := [], blind := 0, level := 0, oet := [], satMark := false, answers := [] } }).post
        (.muted (.configMinority (peers false) (peers true)) (some .enrolling) s.ctl.latch)
    let condemned := (s.record s.ownSlot).standing = .condemned
    exec .enrolmentStep s = exec .endOfEnrolment s ∧
    (peers true < peers false → s.ctl.held = none ∨ ¬ condemned → exec .endOfEnrolment s = .next minority) ∧
    (∀ h, peers true < peers false → s.ctl.held = some h → condemned →
      exec .endOfEnrolment s = .next (minority.takeTrigger c h.kind h.zones)) ∧
    ((∀ n ∈ s.xmt.buffer, n.content.kind = .enrol) → peers false ≤ peers true →
      (∀ h, condemned → s.ctl.held = some h → exec .endOfEnrolment s = .next (started (quarantined h.kind h.zones))) ∧
      (condemned → s.ctl.held = none →
        exec .endOfEnrolment s =
          .next (started (quarantined (if (s.record s.ownSlot).cause = some .peerQuorum then .peerQuorum else .evidence) 0))) ∧
      (¬ condemned → s.ctl.latch = true → exec .endOfEnrolment s = .next (started (quarantined .restored 0))) ∧
      (¬ condemned → s.ctl.latch = false →
        exec .endOfEnrolment s = .next (started { ended with ctl := { ended.ctl with station := .running } })))

/-! ### The bus: sending -/

/-- The beginning of an attempt (R99, R104, R105, R111, R114, R122, R123): at an idle line, with no note of the station under way, the
retry head if its kind is permitted, the same bytes again; else the waiting note of a permitted kind, with budget where it needs budget,
of lowest urgency value and then first in queue order. Its content is fixed, a BEACON composed with the saturation mark read and cleared,
the sequence number taken and a budget unit consumed. Without such a note the transmitter waits. While a note is under way the station
sends its bytes: the strapped slot as sender, the low 16 bits of the serial as tag, its sequence number and its content (R111, R168);
with none under way the line is released. -/
def Obligations.AttemptBegins : Prop :=
  ∀ s : State, Quiet s →
    let ready := s.ctl.inReset = false ∧ 12 ≤ s.rcv.idleCount ∧ ∀ n ∈ s.xmt.buffer, n.state ≠ .underWay
    let permits := fun k : NoteKind => s.ctl.station = .enrolling ∧ k = .enrol ∨ s.ctl.station = .running ∧ k ≠ .enrol ∨
      s.ctl.station = .quarantined ∧ k = .beacon
    let budgeted := fun n : TxNote => n.content.kind = .accuse ∨ n.content.kind = .rebut
    let candidate := fun n : TxNote => n.state = .waiting ∧ permits n.content.kind ∧ (budgeted n → 0 < s.xmt.budget)
    let urgency := fun n : TxNote => match n.content.kind with | .enrol => 0 | .beacon => 0 | .rebut => 1 | .accuse => 2
    let fixed := fun n : TxNote => match n.content with
      | .beacon _ => .beacon (some
          { serial := s.ctl.serial, role := s.ctl.role, digest := s.ctl.digest.getD 0,
            quarantined := decide (s.ctl.station = .quarantined), saturated := s.trk.satMark,
            condemned := ((List.range' 1 24).filter fun x =>
              decide (x ≠ s.ownSlot ∧ (s.record x).standing = .condemned)).map (BitVec.ofNat 8) })
      | content => content
    (¬ ready → exec .beginAttempt s = .next s) ∧
    (∀ (before after : List TxNote) (n : TxNote), ready → s.xmt.buffer = before ++ n :: after → n.state = .retryHead →
      (∀ m ∈ before, m.state ≠ .retryHead) →
      (permits n.content.kind →
        exec .beginAttempt s = .next
          { s with xmt := { s.xmt with buffer := before ++ { n with state := .underWay } :: after },
                   rcv := { s.rcv with idleCount := 0 } }) ∧
      (¬ permits n.content.kind → exec .beginAttempt s = .next s)) ∧
    (ready → (∀ n ∈ s.xmt.buffer, n.state ≠ .retryHead) → (∀ n ∈ s.xmt.buffer, ¬ candidate n) →
      exec .beginAttempt s = .next s) ∧
    (∀ (before after : List TxNote) (n : TxNote), ready → (∀ n ∈ s.xmt.buffer, n.state ≠ .retryHead) →
      s.xmt.buffer = before ++ n :: after → candidate n →
      (∀ m ∈ before, candidate m → urgency n < urgency m) → (∀ m ∈ after, candidate m → urgency n ≤ urgency m) →
      exec .beginAttempt s = .next
        { s with xmt := { buffer := before ++ { n with content := fixed n, state := .underWay, seq := some s.xmt.seqCounter } :: after,
                          budget := if budgeted n then s.xmt.budget - 1 else s.xmt.budget,
                          seqCounter := s.xmt.seqCounter + 1 },
                 trk := { s.trk with satMark := if n.content.kind = .beacon then false else s.trk.satMark },
                 rcv := { s.rcv with idleCount := 0 } }) ∧
    ((∀ n ∈ s.xmt.buffer, n.state ≠ .underWay) → s.noteOnLine = none) ∧
    (∀ (before after : List TxNote) (n : TxNote) (seq : Byte), s.xmt.buffer = before ++ n :: after → n.state = .underWay →
      (∀ m ∈ before, m.state ≠ .underWay) → n.seq = some seq →
      let sender := s.ctl.slotStrap
      let tag := s.ctl.serial.extractLsb' 0 16
      (∀ serial role digest, n.content = .enrol serial role digest →
        s.noteOnLine = some (noteBytes (.enrol { sender := sender, seq := seq, serial := serial, role := role, digest := digest }))) ∧
      (∀ b, n.content = .beacon (some b) →
        s.noteOnLine = some (noteBytes (.beacon
          { sender := sender, seq := seq, serial := b.serial, role := b.role, digest := b.digest, quarantined := b.quarantined,
            saturated := b.saturated, condemned := b.condemned }))) ∧
      (∀ accused k tags surplus, n.content = .accuse accused k tags surplus →
        s.noteOnLine = some (noteBytes (.accuse
          { sender := sender, serialTag := tag, seq := seq, accused := BitVec.ofNat 8 accused, kind := k, tags := tags,
            surplus := BitVec.ofNat 8 surplus }))) ∧
      (∀ accuser t k, n.content = .rebut accuser t k →
        s.noteOnLine = some (noteBytes (.rebut
          { sender := sender, serialTag := tag, seq := seq, accuser := BitVec.ofNat 8 accuser, tag := t, kind := k }))))

/-- The idle line and the ends of an attempt (R98, R101 to R105, R108, R93). The idle count reaches 12 where the station listens and is not
sending. A lost arbitration makes the note the retry head as it stands; the field on the line beats the own field where it is the lower
value (R100), and any other field names no loss and has no effect (Log 22). A read-back failure adds 1 to the attempt count and makes the note the retry head, or at 4 discards it with
XMIT_TROUBLE latched and notified. A note whose retry a change of state forbids is discarded instead. A completed attempt frees the slot,
and the next note waits for an idle. With no note under way there are no such events, and the commands have no effect (Log 1). -/
def Obligations.AttemptEnds : Prop :=
  ∀ s : State, Quiet s →
    let idle := { s with rcv := { s.rcv with idleCount := 12, rxReady := true } }
    let sending := ∃ n ∈ s.xmt.buffer, n.state = .underWay
    (s.ctl.inReset = false → s.ctl.station ≠ .unconfigured → ¬ sending → exec .busIdle s = .next idle) ∧
    (s.ctl.inReset = true ∨ s.ctl.station = .unconfigured ∨ sending → exec .busIdle s = .next s) ∧
    (¬ sending → ∀ line, exec (.arbitrationLost line) s = .next s ∧ exec .readBackFailure s = .next s ∧
      exec .attemptComplete s = .next s) ∧
    (∀ (before after : List TxNote) (n : TxNote), s.xmt.buffer = before ++ n :: after → n.state = .underWay →
      (∀ m ∈ before, m.state ≠ .underWay) →
      let left := s.setBuffer (before ++ after)
      let urgency := match n.content.kind with | .enrol => 0 | .beacon => 0 | .rebut => 1 | .accuse => 2
      let field : Byte := BitVec.ofNat 8 (urgency * 64 + s.ctl.slotStrap.toNat * 2 + 1)
      (∀ line : Byte,
        let loses := line.toNat < field.toNat
        (loses → n.noRetry = false →
          exec (.arbitrationLost line) s = .next (s.setBuffer (before ++ { n with state := .retryHead } :: after))) ∧
        (loses → n.noRetry = true → exec (.arbitrationLost line) s = .next left) ∧
        (¬ loses → exec (.arbitrationLost line) s = .next s)) ∧
      (n.noRetry = true → exec .readBackFailure s = .next left) ∧
      (n.noRetry = false → n.attempts < 3 →
        exec .readBackFailure s =
          .next (s.setBuffer (before ++ { n with state := .retryHead, attempts := n.attempts + 1 } :: after))) ∧
      (n.noRetry = false → 3 ≤ n.attempts →
        exec .readBackFailure s =
          .next ((left.latchFlag xmitTroubleFlag).post (.xmitTrouble n.content.kind (n.seq.getD 0)))) ∧
      exec .attemptComplete s = .next { left with rcv := { s.rcv with idleCount := 0, rxReady := false } })

/-! ### The bus: notes on the line -/

/-- The note check (R110): over 31h to 39h it is 29B1h; the register run on over the two check bytes ends at 0000h exactly when the check
matches; a sent note ends with the check over every byte before it, most significant byte first; and a note is taken only where the
check over its own bytes before its last two equals those two. -/
def Obligations.NoteCheckIsTheCrc : Prop :=
  crc16 [0x31, 0x32, 0x33, 0x34, 0x35, 0x36, 0x37, 0x38, 0x39] = 0x29B1 ∧
  crc16 [] = 0xFFFF ∧
  (∀ (bytes : List Byte) (b : Byte), crc16 (bytes ++ [b]) =
    ((List.range 8).map fun i => b.getLsbD (7 - i)).foldl
      (fun (reg : Half) (bit : Bool) => if reg.getLsbD 15 = bit then reg <<< 1 else (reg <<< 1) ^^^ 0x1021) (crc16 bytes)) ∧
  (∀ (bytes : List Byte) (high low : Byte), crc16 (bytes ++ [high, low]) = 0 ↔ (high ++ low : Half) = crc16 bytes) ∧
  (∀ n : Note, ∃ body : List Byte,
    noteBytes n = body ++ [(crc16 body).extractLsb' 8 8, (crc16 body).extractLsb' 0 8]) ∧
  (∀ (bytes : List Byte) (n : Note), judge bytes = some n →
    ∃ (body rest : List Byte) (high low : Byte), bytes = body ++ high :: low :: rest ∧ body.length + 2 = (noteBytes n).length ∧
      (high ++ low : Half) = crc16 body)

/-- Writing and reading notes agree (Tables 6-3 and 11-1 to 11-7, R100, R108, R110, R168). The bytes of every well-formed note are those of
the tables, by number: the arbitration field of urgency, sender slot and fixed bit 1, the kind, the serial tag (of an ENROL or BEACON the
low 16 bits of its serial), the sequence number, the fields of its kind, and the CRC of all these last. Whatever follows them on the line,
they are judged as that note; cut off anywhere they are incomplete; and their length is the one its kind and counts give. -/
def Obligations.NotesReadAsTheyAreWritten : Prop :=
  let b := fun n : Nat => BitVec.ofNat 8 n
  let two := fun n : Nat => [b (n / 256), b n]
  let four := fun n : Nat => [b (n / 16777216), b (n / 65536), b (n / 256), b n]
  let header := fun (urgency kind : Nat) (sender : BitVec 5) (tag : Nat) (seq : Byte) =>
    [b (urgency * 64 + sender.toNat * 2 + 1), b kind] ++ two tag ++ [seq]
  let role := fun r : Role => b (match r with | .front => 0 | .auth => 1 | .posting => 2 | .gateway => 3)
  let kind := fun k : AccKind => b (match k with | .miss => 1 | .corrupt => 2)
  let bit := fun (flag : Bool) (weight : Nat) => if flag = true then weight else 0
  ∀ n : Note, n.wellFormed = true →
    (let body := match n with
      | .enrol e => header 0 1 e.sender (e.serial.toNat % 65536) e.seq ++ four e.serial.toNat ++ [role e.role] ++ two e.digest.toNat
      | .beacon e => header 0 2 e.sender (e.serial.toNat % 65536) e.seq ++ four e.serial.toNat ++ [role e.role] ++ two e.digest.toNat ++
          [b (bit e.quarantined 1 + bit e.saturated 2), b e.condemned.length] ++ e.condemned
      | .accuse a => header 2 3 a.sender a.serialTag.toNat a.seq ++ [a.accused, kind a.kind, b a.tags.length] ++
          a.tags.flatMap (fun t => two t.toNat) ++ [a.surplus]
      | .rebut r => header 1 4 r.sender r.serialTag.toNat r.seq ++ [r.accuser] ++ two r.tag.toNat ++ [kind r.kind]
     noteBytes n = body ++ two (crc16 body).toNat) ∧
    (∀ rest : List Byte, judge (noteBytes n ++ rest) = some n) ∧
    (∀ k, k < (noteBytes n).length → judge ((noteBytes n).take k) = none) ∧
    (noteBytes n).length = match n with
      | .enrol _ => 14
      | .beacon b => 16 + b.condemned.length
      | .accuse a => 11 + 2 * a.tags.length
      | .rebut _ => 11

/-- Garbled and discarded notes (R108, R109, R130, R132). Bytes are judged as a note exactly where it is well formed and they begin with
its bytes, a BEACON's flag bits above the two named being ignored, and with the check over the bytes as they stand; so an unknown kind,
a wrong urgency, a fixed bit 0, a tag unlike the serial or a value outside its field is no note. A station that takes notes discards any
other bytes, and a RECEIVE command whose operand is no well-formed note (Log 16), with RX_GARBLED latched, and waits for the next idle.
Bytes are judged at the note's end, which its kind and counts give: for an unknown kind the second byte, for a BEACON's list count above
24 and an ACCUSE's tag count of 0 or above 6 that count. Where they do not reach it, a dominant stop bit is a framing error, after which
the next idle is waited for as well; and the line's going idle is an incomplete note, discarded with 12 recessive bit times counted, so
that the line is idle, before or after a BUS_IDLE, and the next note is taken (R98; DEDUCED, Log 26). Bytes that spell a good note are that
note, however the reception went on (Log 16). A station that takes none, or has no idle counted, passes them over.
A good note is discarded with nothing changed but the idle where no record is stored, and, with one stored, where its sender slot is 0 or
above 24. -/
def Obligations.GarbledNoteIsDiscarded : Prop :=
  (∀ (bytes : List Byte) (n : Note), judge bytes = some n ↔
    n.wellFormed = true ∧
    let written := noteBytes n
    let ignores := fun i => match n with | .beacon _ => i = 12 | _ => False
    written.length ≤ bytes.length ∧
    (∀ i, i + 2 < written.length → ¬ ignores i → bytes.getD i 0 = written.getD i 0) ∧
    (∀ i, ignores i → ∀ k, k < 2 → (bytes.getD i 0).getLsbD k = (written.getD i 0).getLsbD k) ∧
    (bytes.getD (written.length - 2) 0 ++ bytes.getD (written.length - 1) 0 : Half) = crc16 (bytes.take (written.length - 2))) ∧
  (∀ (s : State) (bytes : List Byte), Quiet s →
    let garbled := (waitsForIdle s).latchFlag rxGarbled
    let idle : State := { s with rcv := { s.rcv with idleCount := 12, rxReady := true } }
    let byte := fun i => (bytes.getD i 0).toNat
    let ended :=
      if byte 1 = 1 then 14 ≤ bytes.length
      else if byte 1 = 2 then 14 ≤ bytes.length ∧ (24 < byte 13 ∨ 16 + byte 13 ≤ bytes.length)
      else if byte 1 = 3 then 8 ≤ bytes.length ∧ (byte 7 = 0 ∨ 6 < byte 7 ∨ 11 + 2 * byte 7 ≤ bytes.length)
      else if byte 1 = 4 then 11 ≤ bytes.length
      else 2 ≤ bytes.length
    (takesNotes s → judge bytes = none → ended → ∀ ending, exec (.receiveGarbledNote ⟨bytes, ending⟩) s = .next garbled) ∧
    (takesNotes s → judge bytes = none → exec (.receiveGarbledNote ⟨bytes, .dominantStop⟩) s = .next garbled) ∧
    (takesNotes s → ¬ ended →
      exec (.receiveGarbledNote ⟨bytes, .lineIdle⟩) s = .next (idle.latchFlag rxGarbled) ∧
      exec .busIdle (idle.latchFlag rxGarbled) = .next (idle.latchFlag rxGarbled) ∧ exec .busIdle s = .next idle ∧
      exec (.receiveGarbledNote ⟨bytes, .lineIdle⟩) idle = .next (idle.latchFlag rxGarbled)) ∧
    (takesNotes s →
      (∀ e, e.wellFormed = false → exec (.receiveEnrol e) s = .next garbled) ∧
      (∀ b, b.wellFormed = false → exec (.receiveBeacon b) s = .next garbled) ∧
      (∀ a, a.wellFormed = false → exec (.receiveAccuse a) s = .next garbled)) ∧
    (¬ takesNotes s → (∀ ending, exec (.receiveGarbledNote ⟨bytes, ending⟩) s = .next s) ∧
      (∀ e, exec (.receiveEnrol e) s = .next s) ∧ (∀ b, exec (.receiveBeacon b) s = .next s) ∧
      (∀ a, exec (.receiveAccuse a) s = .next s) ∧ (∀ r, exec (.receiveRebut r) s = .next s)) ∧
    (∀ n ending, judge bytes = some n →
      exec (.receiveGarbledNote ⟨bytes, ending⟩) s = match n with
        | .enrol e => exec (.receiveEnrol e) s
        | .beacon b => exec (.receiveBeacon b) s
        | .accuse a => exec (.receiveAccuse a) s
        | .rebut r => exec (.receiveRebut r) s) ∧
    (takesNotes s →
      let discards := fun sender : BitVec 5 => s.ctl.config = none ∨ sender.toNat = 0 ∨ 24 < sender.toNat
      (∀ e, e.wellFormed = true → discards e.sender → exec (.receiveEnrol e) s = .next (waitsForIdle s)) ∧
      (∀ b, b.wellFormed = true → discards b.sender → exec (.receiveBeacon b) s = .next (waitsForIdle s)) ∧
      (∀ a, a.wellFormed = true → discards a.sender → exec (.receiveAccuse a) s = .next (waitsForIdle s)) ∧
      (∀ r, discards r.sender → exec (.receiveRebut r) s = .next (waitsForIdle s))))

/-! ### Reception: ENROL and BEACON -/

/-- A first enrolment and a refresh from the same serial, by ENROL or BEACON from a peer slot (R131, R133, R137, R138): the entry takes the
serial, role and sequence, its digest match, PRESENT and lapse counter 0, with a MISMATCH notice where the match changes and then a
PRESENCE notice where the peer was not PRESENT; then the content of a BEACON; then the note is counted with its babble test
(BabbleIsFound), but for a retry of the note last accepted from the same serial. -/
def Obligations.PeerIsEnrolledOrRefreshed : Prop :=
  ∀ (s : State) (c : ConfigRecord) (i : Instr) (d : Identity), identityOf i = some d → i.wellFormed = true → Quiet s →
    takesNotes s → s.ctl.config = some c → Tables s → 1 ≤ d.slot → d.slot ≤ 24 → d.slot ≠ s.ownSlot →
    let e := s.entry d.slot
    let matched := decide (s.ctl.digest = some d.digest)
    let entered := (waitsForIdle s).setEntry d.slot
      { e with serial := d.serial, role := d.role, lastSeq := some d.seq, matched := matched, presence := .present, lapse := 0 }
    let compared := if e.matched = matched then entered else entered.post (.mismatch d.slot matched d.digest)
    let present := if e.presence = .present then compared else compared.post (.presence d.slot e.presence .present)
    let taken := contentTaken c d present
    (taken.entry d.slot).accepted = e.accepted ∧
    (e.serial = 0 → exec i s = .next (taken.countAccepted c d.slot)) ∧
    (e.serial = d.serial → e.lastSeq ≠ some d.seq → exec i s = .next (taken.countAccepted c d.slot)) ∧
    (e.serial = d.serial → e.lastSeq = some d.seq → exec i s = .next taken)

/-- A replacement (R134, R64, R35): an ENROL or BEACON of another serial on a LAPSED slot. The entry starts afresh under the new serial with
its conflict-seen flag kept; REPLACED is posted; the board record becomes CLEAR with score 0, no witnesses, probation P and the
quorum-short flag clear, with cause REPLACEMENT and a STANDING notice where it was not CLEAR; every pending entry that names the slot as
accuser or accused is removed; then the digest, the content of a BEACON and the count. The note's number, set in step 1 of R131, becomes
absent in its step 2. -/
def Obligations.LapsedSlotIsReplaced : Prop :=
  ∀ (s : State) (c : ConfigRecord) (i : Instr) (d : Identity), identityOf i = some d → i.wellFormed = true → Quiet s →
    takesNotes s → s.ctl.config = some c → c.babble ≠ 0 → Tables s → 1 ≤ d.slot → d.slot ≤ 24 → d.slot ≠ s.ownSlot →
    (s.entry d.slot).serial ≠ 0 → (s.entry d.slot).serial ≠ d.serial → (s.entry d.slot).presence = .lapsed →
    let e := s.entry d.slot
    let r := s.record d.slot
    let matched := decide (s.ctl.digest = some d.digest)
    let afresh : RosterEntry :=
      { serial := d.serial, role := d.role, matched := matched, presence := .present, lapse := 0, lastSeq := none, accepted := 0,
        mute := 0, quarantined := false, saturated := false, condemnsMe := false, conflictSeen := e.conflictSeen }
    let wiped : BoardRecord :=
      { score := 0, standing := .clear, cause := if r.standing = .clear then r.cause else some .replacement,
        probation := c.probation, quorumShort := false, witnesses := [] }
    let entered := (((waitsForIdle s).setEntry d.slot afresh).setRecord d.slot wiped).setAccusations
      (s.eng.accusations.filter fun a => decide (a.accuser ≠ d.slot ∧ a.accused ≠ d.slot))
    let posted := entered.post (.replaced d.slot e.serial d.serial)
    let cleared := if r.standing = .clear then posted else posted.post (.standing d.slot r.standing .clear .replacement)
    let compared := if e.matched = matched then cleared else cleared.post (.mismatch d.slot matched d.digest)
    let taken := contentTaken c d compared
    exec i s = .next (taken.setEntry d.slot { taken.entry d.slot with accepted := 1 })

/-- A slot conflict on a peer slot (R135): an ENROL or BEACON of another serial on a PRESENT slot. The smaller serial is discarded. The
greater switches the entry, cleared as for a replacement, its last accepted sequence absent, and leaves the board record, its witnesses
and the pending entries; the digest, the content and the count follow. Either way the first conflict seen sets the flag and posts one
SLOT_CONFLICT notice with the serial kept and the serial refused. Its order against the MISMATCH notice is open; that it stands before
the notices of the content is the model's choice (Log 8). -/
def Obligations.PeerSlotConflictIsSettled : Prop :=
  ∀ (s : State) (c : ConfigRecord) (i : Instr) (d : Identity), identityOf i = some d → i.wellFormed = true → Quiet s →
    takesNotes s → s.ctl.config = some c → c.babble ≠ 0 → Tables s → 1 ≤ d.slot → d.slot ≤ 24 → d.slot ≠ s.ownSlot →
    (s.entry d.slot).serial ≠ 0 → (s.entry d.slot).presence = .present →
    let e := s.entry d.slot
    let matched := decide (s.ctl.digest = some d.digest)
    (d.serial.toNat < e.serial.toNat → e.conflictSeen = true → exec i s = .next (waitsForIdle s)) ∧
    (d.serial.toNat < e.serial.toNat → e.conflictSeen = false →
      exec i s = .next (((waitsForIdle s).setEntry d.slot { e with conflictSeen := true }).post
        (.slotConflict d.slot e.serial (.serial d.serial)))) ∧
    (e.serial.toNat < d.serial.toNat →
      ∃ noticeFirst : Bool,
        let afresh : RosterEntry :=
          { serial := d.serial, role := d.role, matched := matched, presence := .present, lapse := 0, lastSeq := none, accepted := 0,
            mute := 0, quarantined := false, saturated := false, condemnsMe := false, conflictSeen := true }
        let chosen : State := { waitsForIdle s with choices := s.choices + 1 }
        let entered := chosen.setEntry d.slot afresh
        let conflict := fun u : State => if e.conflictSeen then u else u.post (.slotConflict d.slot d.serial (.serial e.serial))
        let compare := fun u : State => if e.matched = matched then u else u.post (.mismatch d.slot matched d.digest)
        let taken := contentTaken c d (if noticeFirst then compare (conflict entered) else conflict (compare entered))
        exec i s = .next (taken.setEntry d.slot { taken.entry d.slot with accepted := 1 }))

/-- Notes that bear the own slot (R136, R153): an ENROL or BEACON of the own serial is discarded; of a smaller serial it posts the first
SLOT_CONFLICT; of a greater serial it does so with the note's serial kept and mutes an ENROLLING, RUNNING or QUARANTINED station for
SLOT_CONFLICT, a held-over trigger on a CONDEMNED own record being handled in MUTE, and changes nothing further in MUTE; an ACCUSE or
REBUT posts the first SLOT_CONFLICT with its serial tag. None updates the own entry but for the conflict-seen flag, and none is counted. -/
def Obligations.OwnSlotConflictIsHandled : Prop :=
  ∀ (s : State) (c : ConfigRecord), Quiet s → takesNotes s → s.ctl.config = some c → Tables s → 1 ≤ s.ownSlot → s.ownSlot ≤ 24 →
    let own := s.ownSlot
    let first := fun (kept : Word) (refused : Refused) =>
      if (s.entry own).conflictSeen then waitsForIdle s
      else ((waitsForIdle s).setEntry own { s.entry own with conflictSeen := true }).post (.slotConflict own kept refused)
    (∀ (i : Instr) (d : Identity), identityOf i = some d → i.wellFormed = true → d.slot = own →
      let lost := first d.serial (.serial s.ctl.serial)
      let muted := ({ lost with
        ctl := { s.ctl with station := .mute .slotConflict, held := none }, xmt := { s.xmt with buffer := [] },
        trk := { tapFifo := [], blind := 0, level := 0, oet := [], satMark := false, answers := [] } }).post
          (.muted (.slotConflict d.serial) (some s.ctl.station) s.ctl.latch)
      (d.serial = s.ctl.serial → exec i s = .next (waitsForIdle s)) ∧
      (d.serial.toNat < s.ctl.serial.toNat → exec i s = .next (first s.ctl.serial (.serial d.serial))) ∧
      (s.ctl.serial.toNat < d.serial.toNat →
        (s.ctl.station = .running ∨ s.ctl.station = .quarantined → exec i s = .next muted) ∧
        (s.ctl.station = .enrolling → s.ctl.held = none ∨ (s.record own).standing ≠ .condemned → exec i s = .next muted) ∧
        (∀ h, s.ctl.station = .enrolling → s.ctl.held = some h → (s.record own).standing = .condemned →
          exec i s = .next (muted.takeTrigger c h.kind h.zones)) ∧
        (∀ r, s.ctl.station = .mute r → exec i s = .next lost))) ∧
    (∀ a : AccuseNote, a.wellFormed = true → a.sender.toNat = own →
      exec (.receiveAccuse a) s = .next (first s.ctl.serial (.tag a.serialTag))) ∧
    (∀ b : RebutNote, b.sender.toNat = own → exec (.receiveRebut b) s = .next (first s.ctl.serial (.tag b.serialTag)))

/-! ### Reception: ACCUSE and REBUT -/

/-- An ACCUSE from a peer slot (R130, R131, R30, R50, R72 to R75): one that any condition of check 5 discards changes nothing. An accepted
one sets the sequence and becomes a run: an addition for each tag in order, one for a surplus, where the own slot is accused one lookup
for each distinct tag in the order of its first place, and the count with its babble test. In RUNNING a lookup that finds a good answer
queues a REBUT and gives it to the own Evidence Engine, or, without a free slot, latches NOTE_DROPPED. The last requests may be held
until a reading has been taken (Log 25); settled, the run is whole. Entries added between a boundary and the Evidence Engine's work at it
bear the old epoch number (DEDUCED from R48, Log 23). For a list with room and none of the entries, for an accused slot
off the shelf and for one tag against the own slot the run's outcome is spelled out. -/
def Obligations.AccuseIsTaken : Prop :=
  ∀ (s : State) (c : ConfigRecord) (n : AccuseNote), n.wellFormed = true → Quiet s → takesNotes s → s.ctl.config = some c → Tables s →
    1 ≤ n.sender.toNat → n.sender.toNat ≤ 24 → n.sender.toNat ≠ s.ownSlot →
    let x := n.sender.toNat
    let a := n.accused.toNat
    let free := fun (u : State) (p : Pool) => (u.xmt.buffer.filter fun m => decide (m.pool = p)).length < poolSize p
    let answered := fun (u : State) (t : Half) =>
      if u.ctl.station = .running ∧ lookupAnswer u.trk.answers x t = some true then
        if free u .rebut ∨ free u .shared then (u.enqueue (.rebut x t n.kind)).takeRebut c u.ownSlot x t n.kind
        else u.latchFlag noteDropped
      else u
    let perform := fun (u : State) (r : Request) => match r with
      | .addTagged accuser accused k t => u.addTagged c accuser accused k t
      | .addSurplus accuser accused k m => u.addSurplus c accuser accused k m
      | .lookup _ _ t => answered u t
      | .count sender => u.countAccepted c sender
    let run := n.tags.map (Request.addTagged x a n.kind) ++
      (if n.surplus = 0 then [] else [Request.addSurplus x a n.kind n.surplus.toNat]) ++
      (if a = s.ownSlot then n.tags.reverse.dedup.reverse.map (Request.lookup x n.kind) else []) ++ [Request.count x]
    let sequenced := (waitsForIdle s).setEntry x { s.entry x with lastSeq := some n.seq }
    let begun : State := { sequenced with overlaps := s.overlaps.tail }
    let whole := run.foldl perform begun
    let entry := fun load : Load =>
      ({ accuser := x, accused := a, kind := n.kind, load := load,
         stamp := if s.due.evidence = 1 then s.ctl.epoch - 1 else s.ctl.epoch } : Accusation)
    (¬ accepts s x n.serialTag n.seq → exec (.receiveAccuse n) s = .next (waitsForIdle s)) ∧
    (accepts s x n.serialTag n.seq →
      ∃ (done held : List Request) (t : State), run = done ++ held ∧ held.length = min (s.overlaps.headD 0) run.length ∧
        exec (.receiveAccuse n) s = .next t ∧
        (let u := done.foldl perform begun
         t = { u with due := { u.due with run := held } }) ∧
        t.settle = whole) ∧
    (a = 0 ∨ 24 < a → a ≠ s.ownSlot → whole = begun.countAccepted c x) ∧
    (1 ≤ a → a ≤ 24 → n.tags.Nodup → s.eng.accusations.length + n.tags.length + 1 ≤ 48 →
      (∀ f ∈ s.eng.accusations, ¬ (f.accuser = x ∧ f.accused = a)) →
      let added := begun.setAccusations (s.eng.accusations ++ n.tags.map (fun t => entry (.tagged t)) ++
        if n.surplus = 0 then [] else [entry (.untagged n.surplus.toNat)])
      (a ≠ s.ownSlot ∨ s.ctl.station ≠ .running → whole = added.countAccepted c x) ∧
      (∀ t, a = s.ownSlot → s.ctl.station = .running → n.tags = [t] → n.surplus = 0 →
        (lookupAnswer s.trk.answers x t ≠ some true → whole = added.countAccepted c x) ∧
        (lookupAnswer s.trk.answers x t = some true → ¬ free s .rebut → ¬ free s .shared →
          whole = (added.latchFlag noteDropped).countAccepted c x) ∧
        (∀ p, lookupAnswer s.trk.answers x t = some true →
          (free s .rebut ∧ p = .rebut ∨ ¬ free s .rebut ∧ free s .shared ∧ p = .shared) →
          whole = ((((begun.setBuffer (s.xmt.buffer ++
              [{ content := .rebut x t n.kind, pool := p, state := .waiting, seq := none, attempts := 0, noRetry := false }])).post
            (.path x s.ownSlot t n.kind)).applyAndEvaluate c s.ownSlot x .rebutted 1).countAccepted c x))))

/-- A REBUT from a peer slot (R77 to R80, R130, R131): one that any condition of check 5 discards changes nothing. An accepted one posts a
PATH notice where the own slot is the accuser, removes the tagged entry of accuser, sender and tag whatever its kind, applies REBUTTED
against the accuser with the sender as witness, and is counted with its babble test (BabbleIsFound); one whose accuser is off the shelf
is only counted. -/
def Obligations.RebutIsTaken : Prop :=
  ∀ (s : State) (c : ConfigRecord) (n : RebutNote), Quiet s → takesNotes s → s.ctl.config = some c → Tables s →
    1 ≤ n.sender.toNat → n.sender.toNat ≤ 24 → n.sender.toNat ≠ s.ownSlot →
    let x := n.sender.toNat
    let a := n.accuser.toNat
    let e := s.entry x
    let sequenced := (waitsForIdle s).setEntry x { e with lastSeq := some n.seq }
    (¬ accepts s x n.serialTag n.seq → exec (.receiveRebut n) s = .next (waitsForIdle s)) ∧
    (accepts s x n.serialTag n.seq →
      (a = 0 ∨ 24 < a → exec (.receiveRebut n) s = .next (sequenced.countAccepted c x)) ∧
      (1 ≤ a → a ≤ 24 →
        let noticed := if a = s.ownSlot then sequenced.post (.path a x n.tag n.kind) else sequenced
        exec (.receiveRebut n) s = .next
          (((noticed.setAccusations (s.eng.accusations.filter fun f =>
            decide (¬ (f.accuser = a ∧ f.accused = x ∧ f.load = .tagged n.tag)))).applyAndEvaluate c x a .rebutted 1).countAccepted c x)))

/-- The count of an accepted note and the babble test (R131, R140): the count rises by 1, held at 256; just risen from N to N + 1 it sets
the mute remaining to 2 and applies one BABBLE item against the sender with the own slot as witness. -/
def Obligations.BabbleIsFound : Prop :=
  ∀ (s : State) (c : ConfigRecord) (x : Nat), Tables s → 1 ≤ x → x ≤ 24 →
    let e := s.entry x
    (e.accepted ≠ c.babble → s.countAccepted c x = s.setEntry x { e with accepted := min 256 (e.accepted + 1) }) ∧
    (e.accepted = c.babble → s.countAccepted c x =
      (s.setEntry x { e with accepted := min 256 (c.babble + 1), mute := 2 }).applyAndEvaluate c s.ownSlot x .babble 1)

/-! ### The service link -/

/-- CONFIGURE (R146, R148, R149): refused outside UNCONFIGURED, then for the threshold order, then for the babble limit, with nothing
changed but the response; else the clamped record is stored, its digest computed, the clock started at 0, the monitor armed, the state
ENROLLING, an idle asked for, and the first ENROL queued. A record cut short of 34 bytes has no effect and gives no status (R159). -/
def Obligations.ConfigureIsTaken : Prop :=
  ∀ (s : State) (record : List Byte), Quiet s → s.ctl.inReset = false → s.lnk.restartOpen = false →
    let answer := fun (bytes : List Byte) (u : State) =>
      { u with lnk := { u.lnk with lead := some 36, response := bytes, shown := none, noticeOpen := false } }
    let c := configOf (record.take 34)
    let d := crc16 (shelfBytes c)
    let ordered := c.tClear < c.tWatch ∧ c.tWatch < c.tSuspect ∧ c.tSuspect < c.tCondemn
    let enrol : TxNote := { content := .enrol s.ctl.serial s.ctl.role d, pool := .beacon, state := .waiting, seq := none, attempts := 0,
                            noRetry := false }
    (record.length < 34 →
      exec (.configure record) s =
        .next { s with lnk := { s.lnk with lead := none, response := [], shown := none, noticeOpen := false } }) ∧
    (34 ≤ record.length →
      (s.ctl.station ≠ .unconfigured → exec (.configure record) s = .next (answer [0x03] s)) ∧
      (s.ctl.station = .unconfigured → ¬ ordered → exec (.configure record) s = .next (answer [0x02, 0x01] s)) ∧
      (s.ctl.station = .unconfigured → ordered → c.babble < 2 * c.budget + 2 →
        exec (.configure record) s = .next (answer [0x02, 0x02] s)) ∧
      (s.ctl.station = .unconfigured → ordered → 2 * c.budget + 2 ≤ c.babble → s.xmt.buffer = [] →
        exec (.configure record) s = .next (answer [0x01]
          { s with ctl := { s.ctl with config := some c, digest := some d, msCount := 0, epoch := 0, enrolCount := 0,
                                       monitorArmed := true, station := .enrolling },
                   rcv := { s.rcv with idleCount := 0, rxReady := false }, xmt := { s.xmt with buffer := [enrol] } })))

/-- Clamping (R147, Tables 9-2 and 11-8): each field of the 34 bytes is held within its stored range, a field within it standing as
written; the sample match keeps only bits of the base sample mask; the low watermark is held against the clamped high one. The clamped
record is the one stored and the one the digest covers, its 31 shelf-wide bytes being the first 31 as written where nothing was clamped.
CONFIGURE posts no notice and latches no flag. -/
def Obligations.ConfigurationIsClamped : Prop :=
  (∀ r : List Byte, r.length = 34 →
    let n := fun i => (r.getD i 0).toNat
    let h := fun i => 256 * n i + n (i + 1)
    let c := configOf r
    let held := fun (low high written stored : Nat) =>
      (written < low → stored = low) ∧ (high < written → stored = high) ∧ (low ≤ written → written ≤ high → stored = written)
    held 0 4 (n 0) c.epochCode ∧ held 2 6 (n 1) c.decay ∧ held 1 4 (n 2) c.quorum ∧ held 0 31 (n 3) c.zoneMask.toNat ∧
    held 0 4095 (h 4) c.tClear ∧ held 0 4095 (h 6) c.tWatch ∧ held 0 4095 (h 8) c.tSuspect ∧ held 0 4095 (h 10) c.tCondemn ∧
    held 1 255 (n 12) c.wMiss ∧ held 1 255 (n 13) c.wCorrupt ∧ held 1 255 (n 14) c.wRebut ∧ held 1 255 (n 15) c.wBabble ∧
    held 1 15 (n 16) c.expiry ∧ held 2 15 (n 17) c.lapse ∧ held 1 255 (n 18) c.probation ∧ held 1 32 (n 19) c.budget ∧
    held 4 255 (n 20) c.babble ∧ c.timeouts.length = 4 ∧ (∀ k, k < 4 → held 0 12 (n (21 + k)) (c.timeouts.getD k 0)) ∧
    c.baseMask.toNat = h 25 ∧ (∀ i, i < 16 → c.sampleMatch.getLsbD i = ((h 27).testBit i && (h 25).testBit i)) ∧
    c.watch.toNat = h 29 ∧ (n 31 = 0 → c.fence = .report) ∧ (n 31 ≠ 0 → c.fence = .enforce) ∧
    held 16 64 (n 32) c.high ∧ held 0 (c.high - 8) (n 33) c.low ∧
    (n 0 ≤ 4 → 2 ≤ n 1 → n 1 ≤ 6 → 1 ≤ n 2 → n 2 ≤ 4 → n 3 ≤ 31 → h 4 ≤ 4095 → h 6 ≤ 4095 → h 8 ≤ 4095 → h 10 ≤ 4095 →
      1 ≤ n 12 → 1 ≤ n 13 → 1 ≤ n 14 → 1 ≤ n 15 → 1 ≤ n 16 → n 16 ≤ 15 → 2 ≤ n 17 → n 17 ≤ 15 → 1 ≤ n 18 → 1 ≤ n 19 → n 19 ≤ 32 →
      4 ≤ n 20 → n 21 ≤ 12 → n 22 ≤ 12 → n 23 ≤ 12 → n 24 ≤ 12 → c.sampleMatch.toNat = h 27 → shelfBytes c = r.take 31)) ∧
  (∀ (r : List Byte) (s t : State), Quiet s → exec (.configure r) s = .next t →
    t.lnk.notices = s.lnk.notices ∧ t.lnk.flags = s.lnk.flags ∧
    (t.ctl.config = s.ctl.config ∨
      (t.ctl.config = some (configOf (r.take 34)) ∧ t.ctl.digest = some (crc16 (shelfBytes (configOf (r.take 34)))))))

/-- READ STATUS (R161, R60, Table 11-10): status OK and the status record of the state as it stands, its multi-byte fields most significant
byte first; the flags it shows are marked. When the flags byte has been clocked out each flag shown set is cleared unless its condition
has occurred again; the other flags stand. Outside such a response there is no flags byte (Log 13). A status read within a run shows what
its requests have done so far (R50, Log 25). -/
def Obligations.StatusIsRead : Prop :=
  ∀ s : State, Readable s →
    let b := fun n : Nat => BitVec.ofNat 8 n
    let two := fun n : Nat => [b (n / 256), b n]
    let four := fun n : Nat => [b (n / 16777216), b (n / 65536), b (n / 256), b n]
    let codes := match s.ctl.station with
      | .unconfigured => (0, 0) | .enrolling => (1, 0) | .running => (2, 0) | .quarantined => (3, 0)
      | .mute .badStrap => (4, 1) | .mute .slotConflict => (4, 2) | .mute .configMinority => (4, 3) | .mute .clockFault => (4, 4)
    let role := match s.ctl.role with | .front => 0 | .auth => 1 | .posting => 2 | .gateway => 3
    let fence := (List.range' 1 24).filter fun x => decide (x ≠ s.ownSlot ∧ (s.record x).standing = .condemned)
    let record := [b codes.1, b codes.2, b s.ctl.slotStrap.toNat] ++ four s.ctl.serial.toNat ++ [b role] ++
      two (match s.ctl.digest with | some d => d.toNat | none => 0) ++ two s.ctl.epoch.toNat ++
      [b s.trk.level, b s.trk.oet.length, b s.eng.accusations.length, b s.xmt.buffer.length, b s.lnk.notices.length, b s.xmt.budget,
       if s.ctl.latch then 1 else 0, b s.lnk.flags.toNat, b fence.length] ++ fence.map b
    (s.ctl.inReset = false → s.lnk.restartOpen = false →
      exec .readStatus s = .next
        { s with lnk := { s.lnk with lead := some 2, response := 0x01 :: record, shown := some s.lnk.flags, relatched := 0,
                                     noticeOpen := false } }) ∧
    (∀ shown, s.due.run = [] → s.lnk.shown = some shown →
      ∃ left : BitVec 7, exec .flagsByteClocked s = .next { s with lnk := { s.lnk with flags := left, shown := none } } ∧
        ∀ i, i < 7 → left.getLsbD i = (s.lnk.flags.getLsbD i && (!shown.getLsbD i || s.lnk.relatched.getLsbD i))) ∧
    (s.due.run = [] → s.lnk.shown = none → exec .flagsByteClocked s = .next s)

/-- READ VIEW (R163, R169, Table 11-11): a slot from 1 to 24 is answered OK with the view record of its roster entry and board record, any
other BAD_SLOT. It changes nothing but the response. A view read within a run shows what its requests have done so far (R50, Log 25); one
read between a boundary and the Evidence Engine's work at it shows ages by the old epoch (R48, Log 23); one read in step 3 of that work,
or after it and before the evaluation of step 4, shows the quorum-short flag of the evaluation before, stale or not, beside z counted from
the witnesses that the record holds by then (R55, Log 27). Within step 2 the expiries of that step come first (R44, R51, Log 27). -/
def Obligations.ViewIsRead : Prop :=
  ∀ (s : State) (slot : Byte), (∀ e ∈ s.trk.oet, e.age < 4) → s.due.receiver ≤ 1 → s.ctl.inReset = false → s.lnk.restartOpen = false →
    let answer := fun bytes : List Byte =>
      { s with lnk := { s.lnk with lead := some 3, response := bytes, shown := none, noticeOpen := false } }
    let epoch := if s.due.evidence = 1 then s.ctl.epoch - 1 else s.ctl.epoch
    let b := fun n : Nat => BitVec.ofNat 8 n
    let two := fun n : Nat => [b (n / 256), b n]
    let four := fun n : Nat => [b (n / 16777216), b (n / 65536), b (n / 256), b n]
    let bit := fun (flag : Bool) (weight : Nat) => if flag = true then weight else 0
    let x := slot.toNat
    let e := s.entry x
    let r := s.record x
    let presence := match e.presence with | .unseen => 0 | .present => 1 | .lapsed => 2
    let role := match e.role with | .front => 0 | .auth => 1 | .posting => 2 | .gateway => 3
    let standing := match r.standing with | .clear => 0 | .watched => 1 | .suspect => 2 | .condemned => 3
    let cause := match r.cause with
      | none => 0 | some .evidence => 1 | some .selfReport => 2 | some .peerQuorum => 3 | some .release => 4 | some .replacement => 5
    let zones := match s.ctl.config with
      | some c => (zoneKey c.zoneMask x, independentZones c x r.witnesses)
      | none => (0, 0)
    let flags := bit (!e.matched) 1 + bit (decide (0 < e.mute)) 2 + bit e.quarantined 4 + bit e.saturated 8 + bit e.condemnsMe 16 +
      bit e.conflictSeen 32
    let live := fun (c : ConfigRecord) (w : Witness) => decide ((s.ctl.epoch.toNat + 65536 - w.epoch.toNat) % 65536 < c.expiry)
    let records := fun c : ConfigRecord => s.eng.records.map fun r => { r with witnesses := r.witnesses.filter (live c) }
    let expired := fun c : ConfigRecord =>
      ({ s with eng := { s.eng with records := records c }, due := { s.due with evidence := 3 } } : State)
    let shown := s.due.evidence ≤ 1 ∨ s.due.evidence = 3 ∨ s.due.evidence = 4
    (∀ c, s.ctl.config = some c → s.due.evidence = 2 → exec (.readView slot) s = exec (.readView slot) (expired c)) ∧
    (shown → 1 ≤ x → x ≤ 24 →
      exec (.readView slot) s = .next (answer ([0x01, slot, b presence] ++ four e.serial.toNat ++ [b role, b flags, b standing, b cause] ++
        two r.score ++ [b r.probation, b (bit r.quorumShort 1), b zones.1, b zones.2, b r.witnesses.length] ++
        r.witnesses.flatMap fun w => [b w.slot, b w.key, b ((epoch.toNat + 65536 - w.epoch.toNat) % 65536)]))) ∧
    (shown → x = 0 ∨ 24 < x → exec (.readView slot) s = .next (answer [0x04]))

/-- TAKE NOTICE (R165, R166): the record of the head notice as it stands, or EMPTY. The head leaves the queue when the last byte of its
record has been clocked out, and ALERT_N rises with the last notice. Outside such a response there is no such byte (Log 13). -/
def Obligations.NoticesAreTaken : Prop :=
  ∀ s : State, Quiet s →
    let answer := fun (bytes : List Byte) (open' : Bool) =>
      { s with lnk := { s.lnk with lead := some 2, response := bytes, shown := none, noticeOpen := open' } }
    (s.ctl.inReset = false → s.lnk.restartOpen = false → s.lnk.notices = [] → exec .takeNotice s = .next (answer [0x06] false)) ∧
    (∀ head rest, s.ctl.inReset = false → s.lnk.restartOpen = false → s.lnk.notices = head :: rest →
      exec .takeNotice s = .next (answer (0x01 :: noticeBytes head) true)) ∧
    (∀ head rest, s.lnk.noticeOpen = true → s.lnk.notices = head :: rest →
      exec .noticeRemoved s = .next { s with lnk := { s.lnk with notices := rest, noticeOpen := false } } ∧
      ({ s with lnk := { s.lnk with notices := rest, noticeOpen := false } }).alertN = rest.isEmpty) ∧
    (s.lnk.noticeOpen = false → exec .noticeRemoved s = .next s)

/-- The notice records (R169, Tables 11-12 and 11-13): 14 bytes: the kind, the overrun mark in bit 0, the epoch number at posting, the kind
fields, and zeros after them; the PATH and XMIT_TROUBLE fields of one byte each and every other kind by its layout. -/
def Obligations.NoticeRecordsAreLaidOut : Prop :=
  ∀ (epoch : Half) (overrun : Bool),
    let bytes := fun body : NoticeBody => noticeBytes { body := body, epoch := epoch, overrun := overrun }
    let b := fun n : Nat => BitVec.ofNat 8 n
    let two := fun n : Nat => [b (n / 256), b n]
    let four := fun n : Nat => [b (n / 16777216), b (n / 65536), b (n / 256), b n]
    let record := fun (kind : Nat) (fields : List Byte) =>
      b kind :: (if overrun then 1 else 0) :: (two epoch.toNat ++ fields ++ List.replicate (10 - fields.length) 0)
    let standing := fun st : Standing => match st with | .clear => 0 | .watched => 1 | .suspect => 2 | .condemned => 3
    let presence := fun p : Presence => match p with | .unseen => 0 | .present => 1 | .lapsed => 2
    let station := fun st : Option Station => match st with
      | none => 255 | some .unconfigured => 0 | some .enrolling => 1 | some .running => 2 | some .quarantined => 3 | some (.mute _) => 4
    let kind := fun k : AccKind => match k with | .miss => 1 | .corrupt => 2
    let latched := fun l : Bool => if l = true then 1 else 0
    (∀ body, (bytes body).length = 14) ∧
    (∀ x old new cause, bytes (.standing x old new cause) = record 1 [b x, b (standing old), b (standing new),
      b (match cause with | .evidence => 1 | .selfReport => 2 | .peerQuorum => 3 | .release => 4 | .replacement => 5)]) ∧
    (∀ x old new, bytes (.presence x old new) = record 2 [b x, b (presence old), b (presence new)]) ∧
    (∀ x old new, bytes (.replaced x old new) = record 3 (b x :: (four old.toNat ++ four new.toNat))) ∧
    (∀ x matched digest, bytes (.mismatch x matched digest) = record 4 (b x :: b (if matched = true then 0 else 1) :: two digest.toNat)) ∧
    (∀ x kept refused, bytes (.slotConflict x kept (.serial refused)) =
      record 5 (b x :: (four kept.toNat ++ four refused.toNat ++ [b 0]))) ∧
    (∀ x kept tag, bytes (.slotConflict x kept (.tag tag)) = record 5 (b x :: (four kept.toNat ++ [b 0, b 0] ++ two tag.toNat ++ [b 1]))) ∧
    (∀ a x tag k, bytes (.path a x tag k) = record 6 (b a :: b x :: (two tag.toNat ++ [b (kind k)]))) ∧
    (∀ event trigger latch zones, bytes (.quarantine event trigger latch zones) = record 7
      [b (match event with | .entered => 0 | .left => 1 | .latchSet => 2 | .latchCleared => 3),
       b (match trigger with | .evidence => 1 | .peerQuorum => 2 | .restored => 3 | .release => 4), b (latched latch), b zones]) ∧
    (∀ strap p l, bytes (.muted (.badStrap strap) p l) = record 8 [b 1, b (station p), b (latched l), b strap.toNat]) ∧
    (∀ kept p l, bytes (.muted (.slotConflict kept) p l) = record 8 ([b 2, b (station p), b (latched l)] ++ four kept.toNat)) ∧
    (∀ m n p l, bytes (.muted (.configMinority m n) p l) = record 8 [b 3, b (station p), b (latched l), b m, b n]) ∧
    (∀ p l, bytes (.muted .clockFault p l) = record 8 [b 4, b (station p), b (latched l)]) ∧
    (∀ k seq, bytes (.xmitTrouble k seq) =
      record 9 [b (match k with | .enrol => 1 | .beacon => 2 | .accuse => 3 | .rebut => 4), seq])

/-- RELEASE (R61, R62, R34, R95): a slot outside 1 to 24 is BAD_SLOT. A CONDEMNED peer loses the pending entries against it, its score and
witnesses, gets probation P, and becomes CLEAR with cause RELEASE and a STANDING notice; any other peer is NOT_CONDEMNED. The own slot in
QUARANTINED clears the latch, the entries against it, its record (a standing that was not CONDEMNED posting nothing, its cause kept:
Log 18) and every condemns-me flag, and returns to RUNNING with a LEFT notice; in MUTE it clears a set latch with LATCH_CLEARED; else it
is NOT_CONDEMNED. -/
def Obligations.ReleaseIsTaken : Prop :=
  ∀ (s : State) (slot : Byte), Quiet s → s.ctl.inReset = false → s.lnk.restartOpen = false → Tables s →
    let answer := fun (status : Byte) (u : State) =>
      { u with lnk := { u.lnk with lead := some 3, response := [status], shown := none, noticeOpen := false } }
    let x := slot.toNat
    let r := s.record x
    let kept := s.setAccusations (s.eng.accusations.filter fun e => decide (e.accused ≠ x))
    let wiped := fun (c : ConfigRecord) (cause : Option Cause) =>
      ({ score := 0, standing := .clear, cause := cause, probation := c.probation, quorumShort := false, witnesses := [] } : BoardRecord)
    (x = 0 ∨ 24 < x → exec (.release slot) s = .next (answer 0x04 s)) ∧
    (∀ c, s.ctl.config = some c → 1 ≤ x → x ≤ 24 → x ≠ s.ownSlot → r.standing = .condemned →
      exec (.release slot) s = .next (answer 0x01
        ((kept.setRecord x (wiped c (some .release))).post (.standing x .condemned .clear .release)))) ∧
    (1 ≤ x → x ≤ 24 → x ≠ s.ownSlot → r.standing ≠ .condemned ∨ s.ctl.config = none →
      exec (.release slot) s = .next (answer 0x05 s)) ∧
    (1 ≤ x → x ≤ 24 → x = s.ownSlot →
      (∀ c, s.ctl.config = some c → s.ctl.station = .quarantined →
        let forgiven := fun u : State =>
          { u with ctl := { s.ctl with station := .running, latch := false },
                   rcv := { s.rcv with roster := s.rcv.roster.map fun (e : RosterEntry) => { e with condemnsMe := false } } }
        (r.standing = .condemned → exec (.release slot) s = .next (answer 0x01
          (((forgiven (kept.setRecord x (wiped c (some .release)))).post (.standing x .condemned .clear .release)).post
            (.quarantine .left .release false 0)))) ∧
        (r.standing ≠ .condemned → exec (.release slot) s = .next (answer 0x01
          ((forgiven (kept.setRecord x (wiped c r.cause))).post (.quarantine .left .release false 0))))) ∧
      (∀ reason, s.ctl.station = .mute reason →
        (s.ctl.latch = true → exec (.release slot) s = .next (answer 0x01
          (({ s with ctl := { s.ctl with latch := false } }).post (.quarantine .latchCleared .release false 0)))) ∧
        (s.ctl.latch = false → exec (.release slot) s = .next (answer 0x05 s))) ∧
      (s.ctl.station = .unconfigured ∨ s.ctl.station = .enrolling ∨ s.ctl.station = .running →
        exec (.release slot) s = .next (answer 0x05 s)))

/-- The link's transactions (R158, R159, R160, R169, Tables 10-1 and 11-9). A transaction's first byte picks the command and takes its
arguments; cut short of them it is aborted, a byte outside the table is UNKNOWN_COMMAND, and no byte is taken with CS_N high or held low
across a reset. RESTART is answered OK and leaves the station unchanged until its transaction closes; an abort has no effect and gives
no status; a byte within the table is no unknown command (Log 1). MISO sends 00h before the response, then the response, then 00h, and
is not driven in reset or with CS_N high. In reset and within a RESTART transaction no command is taken. -/
def Obligations.OtherCommandsAreAnswered : Prop :=
  let listed := fun command : Byte => command.toNat ∈ [0x10, 0x20, 0x21, 0x30, 0x40, 0x7E]
  (∀ rest : List Byte,
    (rest.length < 34 → transactionCommand .low (0x10 :: rest) = some .commandAborted) ∧
    (34 ≤ rest.length → transactionCommand .low (0x10 :: rest) = some (.configure (rest.take 34))) ∧
    transactionCommand .low (0x20 :: rest) = some .readStatus ∧
    (∀ slot, transactionCommand .low (0x21 :: slot :: rest) = some (.readView slot)) ∧
    transactionCommand .low (0x30 :: rest) = some .takeNotice ∧
    (∀ slot, transactionCommand .low (0x40 :: slot :: rest) = some (.release slot)) ∧
    transactionCommand .low (0x7E :: rest) = some .restart ∧
    (∀ command, ¬ listed command → transactionCommand .low (command :: rest) = some (.unknownCommand command)) ∧
    transactionCommand .low [0x21] = some .commandAborted ∧ transactionCommand .low [0x40] = some .commandAborted ∧
    transactionCommand .low [] = none ∧ transactionCommand .high rest = none ∧ transactionCommand .heldLow rest = none) ∧
  (∀ (s : State) (k : Nat),
    s.miso .high k = none ∧ (s.ctl.inReset = true → ∀ cs, s.miso cs k = none) ∧
    (s.ctl.inReset = false →
      (s.lnk.lead = none → s.miso .low k = some 0) ∧
      (∀ lead, s.lnk.lead = some lead →
        (k < lead → s.miso .low k = some 0) ∧
        (∀ (i : Nat) (byte : Byte), s.lnk.response[i]? = some byte → s.miso .low (lead + i) = some byte) ∧
        (lead + s.lnk.response.length ≤ k → s.miso .low k = some 0)))) ∧
  (∀ s : State, Quiet s →
    let answer := fun (restarting : Bool) (bytes : List Byte) =>
      { s with lnk := { s.lnk with lead := some 2, response := bytes, shown := none, noticeOpen := false, restartOpen := restarting } }
    (s.ctl.inReset = false → s.lnk.restartOpen = false →
      exec .restart s = .next (answer true [0x01]) ∧
      (∀ command, ¬ listed command → exec (.unknownCommand command) s = .next (answer false [0x07])) ∧
      exec .commandAborted s =
        .next { s with lnk := { s.lnk with lead := none, response := [], shown := none, noticeOpen := false } }) ∧
    (∀ command, listed command → exec (.unknownCommand command) s = .next s) ∧
    (s.ctl.inReset = true ∨ s.lnk.restartOpen = true →
      (∀ record, exec (.configure record) s = .next s) ∧ exec .readStatus s = .next s ∧ (∀ x, exec (.readView x) s = .next s) ∧
      exec .takeNotice s = .next s ∧ (∀ x, exec (.release x) s = .next s) ∧ exec .restart s = .next s ∧
      (∀ command, exec (.unknownCommand command) s = .next s) ∧ exec .commandAborted s = .next s))

/-! ### The whole machine -/

/-- The quarantine latch is cleared only by a power-on reset and by RELEASE of the own slot, taken in QUARANTINED or in MUTE (R86, R92, R95,
R97). -/
def Obligations.LatchIsClearedOnlyByPowerOnOrRelease : Prop :=
  ∀ (i : Instr) (s t : State), exec i s = .next t → s.ctl.latch = true → t.ctl.latch = false →
    i = .powerOnReset ∨
    (∃ slot, i = .release slot ∧ slot.toNat = s.ownSlot ∧ 1 ≤ s.ownSlot ∧ s.ownSlot ≤ 24 ∧
      (s.settle.ctl.station = .quarantined ∨ ∃ r, s.settle.ctl.station = .mute r))

/-- What only a reset ends (R145, R149, R154): the stored record with its digest, the armed monitor, and MUTE, whose reason only a clock
fault changes. A tick taken from the RC oscillator stays there. -/
def Obligations.OnlyResetsEndTheLockAndMute : Prop :=
  ∀ (i : Instr) (s t : State), exec i s = .next t → isReset i = false →
    (∀ c, s.ctl.config = some c → (s.ctl.station ≠ .unconfigured → t.ctl.config = some c ∧ t.ctl.digest = s.ctl.digest)) ∧
    (s.ctl.monitorArmed = true → t.ctl.monitorArmed = true) ∧
    (∀ r, s.ctl.station = .mute r → s.ctl.inReset = false →
      t.ctl.station = .mute r ∨ (i = .clockFault ∧ t.ctl.station = .mute .clockFault)) ∧
    (s.ctl.tickSource = .rc → t.ctl.tickSource = .rc)

/-- CONDEMNED ends only by RELEASE of that slot, by an ENROL or BEACON of another serial on a LAPSED slot, or by a reset (R53, R61, R134,
R95). -/
def Obligations.CondemnationEndsOnlyByReleaseOrReplacement : Prop :=
  ∀ (i : Instr) (s t : State) (x : Nat), Tables s → 1 ≤ x → x ≤ 24 → exec i s = .next t →
    (s.record x).standing = .condemned → (t.record x).standing ≠ .condemned →
    isReset i = true ∨ (∃ slot, i = .release slot ∧ slot.toNat = x) ∨
    ((∃ d, identityOf i = some d ∧ d.slot = x ∧ d.serial ≠ (s.settle.entry x).serial) ∨
      (∃ bytes ending n j d, i = .receiveGarbledNote ⟨bytes, ending⟩ ∧ judge bytes = some n ∧
        (j = match n with
          | .enrol e => .receiveEnrol e | .beacon b => .receiveBeacon b | .accuse a => .receiveAccuse a | .rebut r => .receiveRebut r) ∧
        identityOf j = some d ∧ d.slot = x ∧ d.serial ≠ (s.settle.entry x).serial)) ∧
      (s.settle.entry x).presence = .lapsed

/-- State.reset meets every law of Safety.lean: the values are those of the reset tables and the serial is not 0 (R143). -/
def Obligations.ResetIsSound : Prop :=
  ControllerSound State.reset ∧ TrackerSound State.reset ∧ EngineSound State.reset ∧ RosterSound State.reset ∧
  LinkSound State.reset ∧ BufferSound State.reset ∧ Quiet State.reset ∧ State.reset.isolate = false ∧ State.reset.alertN = true

/-- Every step keeps the laws of the Station Controller's state (Table 9-1, R143, R147 to R154, R91). -/
def Obligations.StepKeepsTheController : Prop :=
  ∀ s t : State, ControllerSound s → step s = .next t → ControllerSound t

/-- Every step keeps the bounds of the tap FIFO, the OET and the answer list, and the laws of R12: no two outstanding entries share
direction, peer and tag, and every entry's tag is eligible at level 0. -/
def Obligations.StepKeepsTheTracker : Prop :=
  ∀ s t : State, ControllerSound s → TrackerSound s → step s = .next t → TrackerSound t

/-- Every step keeps the bounds of the board records and the laws of the pending list (R27, R40, R41, R51, R56, R66). -/
def Obligations.StepKeepsTheEvidence : Prop :=
  ∀ s t : State, ControllerSound s → EngineSound s → step s = .next t → EngineSound t

/-- Every step keeps the bounds of the roster and of the notice queue (R129, R133, R139, R164, R165). -/
def Obligations.StepKeepsTheRosterAndTheQueue : Prop :=
  ∀ s t : State, ControllerSound s → RosterSound s → LinkSound s → step s = .next t → RosterSound t ∧ LinkSound t

/-- Every step keeps the laws of the transmit buffer and the budget (Table 7-1, R104, R117, R118, R119, R122, R127). -/
def Obligations.StepKeepsTheBuffer : Prop :=
  ∀ s t : State, ControllerSound s → BufferSound s → step s = .next t → BufferSound t

end
end

