-- ==== Sys2Proof/Laws/State.lean ====
section
/-! SUPPORT. What each plain update of the state does to each block: one lemma per field per update, true by rfl. -/

namespace Sys2Proof.Machine

variable (s : State)

/-! ### setRecord -/

@[simp] theorem State.setRecord_ctl (x : Nat) (r : BoardRecord) : (s.setRecord x r).ctl = s.ctl := rfl
@[simp] theorem State.setRecord_trk (x : Nat) (r : BoardRecord) : (s.setRecord x r).trk = s.trk := rfl
@[simp] theorem State.setRecord_eng (x : Nat) (r : BoardRecord) : (s.setRecord x r).eng = { s.eng with records := s.eng.records.set (x - 1) r } := rfl
@[simp] theorem State.setRecord_rcv (x : Nat) (r : BoardRecord) : (s.setRecord x r).rcv = s.rcv := rfl
@[simp] theorem State.setRecord_xmt (x : Nat) (r : BoardRecord) : (s.setRecord x r).xmt = s.xmt := rfl
@[simp] theorem State.setRecord_lnk (x : Nat) (r : BoardRecord) : (s.setRecord x r).lnk = s.lnk := rfl
@[simp] theorem State.setRecord_due (x : Nat) (r : BoardRecord) : (s.setRecord x r).due = s.due := rfl
@[simp] theorem State.setRecord_choices (x : Nat) (r : BoardRecord) : (s.setRecord x r).choices = s.choices := rfl
@[simp] theorem State.setRecord_overlaps (x : Nat) (r : BoardRecord) : (s.setRecord x r).overlaps = s.overlaps := rfl
@[simp] theorem State.setRecord_pending (x : Nat) (r : BoardRecord) : (s.setRecord x r).pending = s.pending := rfl

/-! ### mapRecords -/

@[simp] theorem State.mapRecords_ctl (f : BoardRecord → BoardRecord) : (s.mapRecords f).ctl = s.ctl := rfl
@[simp] theorem State.mapRecords_trk (f : BoardRecord → BoardRecord) : (s.mapRecords f).trk = s.trk := rfl
@[simp] theorem State.mapRecords_eng (f : BoardRecord → BoardRecord) : (s.mapRecords f).eng = { s.eng with records := s.eng.records.map f } := rfl
@[simp] theorem State.mapRecords_rcv (f : BoardRecord → BoardRecord) : (s.mapRecords f).rcv = s.rcv := rfl
@[simp] theorem State.mapRecords_xmt (f : BoardRecord → BoardRecord) : (s.mapRecords f).xmt = s.xmt := rfl
@[simp] theorem State.mapRecords_lnk (f : BoardRecord → BoardRecord) : (s.mapRecords f).lnk = s.lnk := rfl
@[simp] theorem State.mapRecords_due (f : BoardRecord → BoardRecord) : (s.mapRecords f).due = s.due := rfl
@[simp] theorem State.mapRecords_choices (f : BoardRecord → BoardRecord) : (s.mapRecords f).choices = s.choices := rfl
@[simp] theorem State.mapRecords_overlaps (f : BoardRecord → BoardRecord) : (s.mapRecords f).overlaps = s.overlaps := rfl
@[simp] theorem State.mapRecords_pending (f : BoardRecord → BoardRecord) : (s.mapRecords f).pending = s.pending := rfl

/-! ### setAccusations -/

@[simp] theorem State.setAccusations_ctl (l : List Accusation) : (s.setAccusations l).ctl = s.ctl := rfl
@[simp] theorem State.setAccusations_trk (l : List Accusation) : (s.setAccusations l).trk = s.trk := rfl
@[simp] theorem State.setAccusations_eng (l : List Accusation) : (s.setAccusations l).eng = { s.eng with accusations := l } := rfl
@[simp] theorem State.setAccusations_rcv (l : List Accusation) : (s.setAccusations l).rcv = s.rcv := rfl
@[simp] theorem State.setAccusations_xmt (l : List Accusation) : (s.setAccusations l).xmt = s.xmt := rfl
@[simp] theorem State.setAccusations_lnk (l : List Accusation) : (s.setAccusations l).lnk = s.lnk := rfl
@[simp] theorem State.setAccusations_due (l : List Accusation) : (s.setAccusations l).due = s.due := rfl
@[simp] theorem State.setAccusations_choices (l : List Accusation) : (s.setAccusations l).choices = s.choices := rfl
@[simp] theorem State.setAccusations_overlaps (l : List Accusation) : (s.setAccusations l).overlaps = s.overlaps := rfl
@[simp] theorem State.setAccusations_pending (l : List Accusation) : (s.setAccusations l).pending = s.pending := rfl

/-! ### setEntry -/

@[simp] theorem State.setEntry_ctl (x : Nat) (e : RosterEntry) : (s.setEntry x e).ctl = s.ctl := rfl
@[simp] theorem State.setEntry_trk (x : Nat) (e : RosterEntry) : (s.setEntry x e).trk = s.trk := rfl
@[simp] theorem State.setEntry_eng (x : Nat) (e : RosterEntry) : (s.setEntry x e).eng = s.eng := rfl
@[simp] theorem State.setEntry_rcv (x : Nat) (e : RosterEntry) : (s.setEntry x e).rcv = { s.rcv with roster := s.rcv.roster.set (x - 1) e } := rfl
@[simp] theorem State.setEntry_xmt (x : Nat) (e : RosterEntry) : (s.setEntry x e).xmt = s.xmt := rfl
@[simp] theorem State.setEntry_lnk (x : Nat) (e : RosterEntry) : (s.setEntry x e).lnk = s.lnk := rfl
@[simp] theorem State.setEntry_due (x : Nat) (e : RosterEntry) : (s.setEntry x e).due = s.due := rfl
@[simp] theorem State.setEntry_choices (x : Nat) (e : RosterEntry) : (s.setEntry x e).choices = s.choices := rfl
@[simp] theorem State.setEntry_overlaps (x : Nat) (e : RosterEntry) : (s.setEntry x e).overlaps = s.overlaps := rfl
@[simp] theorem State.setEntry_pending (x : Nat) (e : RosterEntry) : (s.setEntry x e).pending = s.pending := rfl

/-! ### mapRoster -/

@[simp] theorem State.mapRoster_ctl (f : RosterEntry → RosterEntry) : (s.mapRoster f).ctl = s.ctl := rfl
@[simp] theorem State.mapRoster_trk (f : RosterEntry → RosterEntry) : (s.mapRoster f).trk = s.trk := rfl
@[simp] theorem State.mapRoster_eng (f : RosterEntry → RosterEntry) : (s.mapRoster f).eng = s.eng := rfl
@[simp] theorem State.mapRoster_rcv (f : RosterEntry → RosterEntry) : (s.mapRoster f).rcv = { s.rcv with roster := s.rcv.roster.map f } := rfl
@[simp] theorem State.mapRoster_xmt (f : RosterEntry → RosterEntry) : (s.mapRoster f).xmt = s.xmt := rfl
@[simp] theorem State.mapRoster_lnk (f : RosterEntry → RosterEntry) : (s.mapRoster f).lnk = s.lnk := rfl
@[simp] theorem State.mapRoster_due (f : RosterEntry → RosterEntry) : (s.mapRoster f).due = s.due := rfl
@[simp] theorem State.mapRoster_choices (f : RosterEntry → RosterEntry) : (s.mapRoster f).choices = s.choices := rfl
@[simp] theorem State.mapRoster_overlaps (f : RosterEntry → RosterEntry) : (s.mapRoster f).overlaps = s.overlaps := rfl
@[simp] theorem State.mapRoster_pending (f : RosterEntry → RosterEntry) : (s.mapRoster f).pending = s.pending := rfl

/-! ### setBuffer -/

@[simp] theorem State.setBuffer_ctl (l : List TxNote) : (s.setBuffer l).ctl = s.ctl := rfl
@[simp] theorem State.setBuffer_trk (l : List TxNote) : (s.setBuffer l).trk = s.trk := rfl
@[simp] theorem State.setBuffer_eng (l : List TxNote) : (s.setBuffer l).eng = s.eng := rfl
@[simp] theorem State.setBuffer_rcv (l : List TxNote) : (s.setBuffer l).rcv = s.rcv := rfl
@[simp] theorem State.setBuffer_xmt (l : List TxNote) : (s.setBuffer l).xmt = { s.xmt with buffer := l } := rfl
@[simp] theorem State.setBuffer_lnk (l : List TxNote) : (s.setBuffer l).lnk = s.lnk := rfl
@[simp] theorem State.setBuffer_due (l : List TxNote) : (s.setBuffer l).due = s.due := rfl
@[simp] theorem State.setBuffer_choices (l : List TxNote) : (s.setBuffer l).choices = s.choices := rfl
@[simp] theorem State.setBuffer_overlaps (l : List TxNote) : (s.setBuffer l).overlaps = s.overlaps := rfl
@[simp] theorem State.setBuffer_pending (l : List TxNote) : (s.setBuffer l).pending = s.pending := rfl

/-! ### latchFlag -/

@[simp] theorem State.latchFlag_ctl (f : BitVec 7) : (s.latchFlag f).ctl = s.ctl := rfl
@[simp] theorem State.latchFlag_trk (f : BitVec 7) : (s.latchFlag f).trk = s.trk := rfl
@[simp] theorem State.latchFlag_eng (f : BitVec 7) : (s.latchFlag f).eng = s.eng := rfl
@[simp] theorem State.latchFlag_rcv (f : BitVec 7) : (s.latchFlag f).rcv = s.rcv := rfl
@[simp] theorem State.latchFlag_xmt (f : BitVec 7) : (s.latchFlag f).xmt = s.xmt := rfl
@[simp] theorem State.latchFlag_lnk (f : BitVec 7) : (s.latchFlag f).lnk = { s.lnk with flags := s.lnk.flags ||| f, relatched := s.lnk.relatched ||| f } := rfl
@[simp] theorem State.latchFlag_due (f : BitVec 7) : (s.latchFlag f).due = s.due := rfl
@[simp] theorem State.latchFlag_choices (f : BitVec 7) : (s.latchFlag f).choices = s.choices := rfl
@[simp] theorem State.latchFlag_overlaps (f : BitVec 7) : (s.latchFlag f).overlaps = s.overlaps := rfl
@[simp] theorem State.latchFlag_pending (f : BitVec 7) : (s.latchFlag f).pending = s.pending := rfl

/-! ### lineBusy -/

@[simp] theorem State.lineBusy_ctl : (s.lineBusy).ctl = s.ctl := rfl
@[simp] theorem State.lineBusy_trk : (s.lineBusy).trk = s.trk := rfl
@[simp] theorem State.lineBusy_eng : (s.lineBusy).eng = s.eng := rfl
@[simp] theorem State.lineBusy_rcv : (s.lineBusy).rcv = { s.rcv with idleCount := 0, rxReady := false } := rfl
@[simp] theorem State.lineBusy_xmt : (s.lineBusy).xmt = s.xmt := rfl
@[simp] theorem State.lineBusy_lnk : (s.lineBusy).lnk = s.lnk := rfl
@[simp] theorem State.lineBusy_due : (s.lineBusy).due = s.due := rfl
@[simp] theorem State.lineBusy_choices : (s.lineBusy).choices = s.choices := rfl
@[simp] theorem State.lineBusy_overlaps : (s.lineBusy).overlaps = s.overlaps := rfl
@[simp] theorem State.lineBusy_pending : (s.lineBusy).pending = s.pending := rfl

/-! ### lineIdle -/

@[simp] theorem State.lineIdle_ctl : (s.lineIdle).ctl = s.ctl := rfl
@[simp] theorem State.lineIdle_trk : (s.lineIdle).trk = s.trk := rfl
@[simp] theorem State.lineIdle_eng : (s.lineIdle).eng = s.eng := rfl
@[simp] theorem State.lineIdle_rcv : (s.lineIdle).rcv = { s.rcv with idleCount := 12, rxReady := true } := rfl
@[simp] theorem State.lineIdle_xmt : (s.lineIdle).xmt = s.xmt := rfl
@[simp] theorem State.lineIdle_lnk : (s.lineIdle).lnk = s.lnk := rfl
@[simp] theorem State.lineIdle_due : (s.lineIdle).due = s.due := rfl
@[simp] theorem State.lineIdle_choices : (s.lineIdle).choices = s.choices := rfl
@[simp] theorem State.lineIdle_overlaps : (s.lineIdle).overlaps = s.overlaps := rfl
@[simp] theorem State.lineIdle_pending : (s.lineIdle).pending = s.pending := rfl

/-! ### nextChoice -/

@[simp] theorem State.nextChoice_ctl : (s.nextChoice).ctl = s.ctl := rfl
@[simp] theorem State.nextChoice_trk : (s.nextChoice).trk = s.trk := rfl
@[simp] theorem State.nextChoice_eng : (s.nextChoice).eng = s.eng := rfl
@[simp] theorem State.nextChoice_rcv : (s.nextChoice).rcv = s.rcv := rfl
@[simp] theorem State.nextChoice_xmt : (s.nextChoice).xmt = s.xmt := rfl
@[simp] theorem State.nextChoice_lnk : (s.nextChoice).lnk = s.lnk := rfl
@[simp] theorem State.nextChoice_due : (s.nextChoice).due = s.due := rfl
@[simp] theorem State.nextChoice_choices : (s.nextChoice).choices = s.choices + 1 := rfl
@[simp] theorem State.nextChoice_overlaps : (s.nextChoice).overlaps = s.overlaps := rfl
@[simp] theorem State.nextChoice_pending : (s.nextChoice).pending = s.pending := rfl

/-! ### respond -/

@[simp] theorem State.respond_ctl (b : Byte) (l : List Byte) : (s.respond b l).ctl = s.ctl := rfl
@[simp] theorem State.respond_trk (b : Byte) (l : List Byte) : (s.respond b l).trk = s.trk := rfl
@[simp] theorem State.respond_eng (b : Byte) (l : List Byte) : (s.respond b l).eng = s.eng := rfl
@[simp] theorem State.respond_rcv (b : Byte) (l : List Byte) : (s.respond b l).rcv = s.rcv := rfl
@[simp] theorem State.respond_xmt (b : Byte) (l : List Byte) : (s.respond b l).xmt = s.xmt := rfl
@[simp] theorem State.respond_lnk (b : Byte) (l : List Byte) : (s.respond b l).lnk =
    { s.lnk with lead := some (argumentBytes b + 2), response := l, shown := none, noticeOpen := false } := rfl
@[simp] theorem State.respond_due (b : Byte) (l : List Byte) : (s.respond b l).due = s.due := rfl
@[simp] theorem State.respond_choices (b : Byte) (l : List Byte) : (s.respond b l).choices = s.choices := rfl
@[simp] theorem State.respond_overlaps (b : Byte) (l : List Byte) : (s.respond b l).overlaps = s.overlaps := rfl
@[simp] theorem State.respond_pending (b : Byte) (l : List Byte) : (s.respond b l).pending = s.pending := rfl

/-! ### abort -/

@[simp] theorem State.abort_ctl : s.abort.ctl = s.ctl := rfl
@[simp] theorem State.abort_trk : s.abort.trk = s.trk := rfl
@[simp] theorem State.abort_eng : s.abort.eng = s.eng := rfl
@[simp] theorem State.abort_rcv : s.abort.rcv = s.rcv := rfl
@[simp] theorem State.abort_xmt : s.abort.xmt = s.xmt := rfl
@[simp] theorem State.abort_lnk : s.abort.lnk = { s.lnk with lead := none, response := [], shown := none, noticeOpen := false } := rfl
@[simp] theorem State.abort_due : s.abort.due = s.due := rfl
@[simp] theorem State.abort_choices : s.abort.choices = s.choices := rfl
@[simp] theorem State.abort_overlaps : s.abort.overlaps = s.overlaps := rfl
@[simp] theorem State.abort_pending : s.abort.pending = s.pending := rfl

/-! ### setEvidenceDue -/

@[simp] theorem State.setEvidenceDue_ctl (n : Nat) : (s.setEvidenceDue n).ctl = s.ctl := rfl
@[simp] theorem State.setEvidenceDue_trk (n : Nat) : (s.setEvidenceDue n).trk = s.trk := rfl
@[simp] theorem State.setEvidenceDue_eng (n : Nat) : (s.setEvidenceDue n).eng = s.eng := rfl
@[simp] theorem State.setEvidenceDue_rcv (n : Nat) : (s.setEvidenceDue n).rcv = s.rcv := rfl
@[simp] theorem State.setEvidenceDue_xmt (n : Nat) : (s.setEvidenceDue n).xmt = s.xmt := rfl
@[simp] theorem State.setEvidenceDue_lnk (n : Nat) : (s.setEvidenceDue n).lnk = s.lnk := rfl
@[simp] theorem State.setEvidenceDue_due (n : Nat) : (s.setEvidenceDue n).due = { s.due with evidence := n } := rfl
@[simp] theorem State.setEvidenceDue_choices (n : Nat) : (s.setEvidenceDue n).choices = s.choices := rfl
@[simp] theorem State.setEvidenceDue_overlaps (n : Nat) : (s.setEvidenceDue n).overlaps = s.overlaps := rfl
@[simp] theorem State.setEvidenceDue_pending (n : Nat) : (s.setEvidenceDue n).pending = s.pending := rfl

/-! ### setReceiverDue -/

@[simp] theorem State.setReceiverDue_ctl (n : Nat) : (s.setReceiverDue n).ctl = s.ctl := rfl
@[simp] theorem State.setReceiverDue_trk (n : Nat) : (s.setReceiverDue n).trk = s.trk := rfl
@[simp] theorem State.setReceiverDue_eng (n : Nat) : (s.setReceiverDue n).eng = s.eng := rfl
@[simp] theorem State.setReceiverDue_rcv (n : Nat) : (s.setReceiverDue n).rcv = s.rcv := rfl
@[simp] theorem State.setReceiverDue_xmt (n : Nat) : (s.setReceiverDue n).xmt = s.xmt := rfl
@[simp] theorem State.setReceiverDue_lnk (n : Nat) : (s.setReceiverDue n).lnk = s.lnk := rfl
@[simp] theorem State.setReceiverDue_due (n : Nat) : (s.setReceiverDue n).due = { s.due with receiver := n } := rfl
@[simp] theorem State.setReceiverDue_choices (n : Nat) : (s.setReceiverDue n).choices = s.choices := rfl
@[simp] theorem State.setReceiverDue_overlaps (n : Nat) : (s.setReceiverDue n).overlaps = s.overlaps := rfl
@[simp] theorem State.setReceiverDue_pending (n : Nat) : (s.setReceiverDue n).pending = s.pending := rfl

/-! ### The engine's epoch number -/

@[simp] theorem State.setRecord_evidenceEpoch (x : Nat) (r : BoardRecord) : (s.setRecord x r).evidenceEpoch = s.evidenceEpoch := rfl
@[simp] theorem State.mapRecords_evidenceEpoch (f : BoardRecord → BoardRecord) : (s.mapRecords f).evidenceEpoch = s.evidenceEpoch := rfl
@[simp] theorem State.setAccusations_evidenceEpoch (l : List Accusation) : (s.setAccusations l).evidenceEpoch = s.evidenceEpoch := rfl
@[simp] theorem State.setEntry_evidenceEpoch (x : Nat) (e : RosterEntry) : (s.setEntry x e).evidenceEpoch = s.evidenceEpoch := rfl
@[simp] theorem State.setBuffer_evidenceEpoch (l : List TxNote) : (s.setBuffer l).evidenceEpoch = s.evidenceEpoch := rfl
@[simp] theorem State.latchFlag_evidenceEpoch (f : BitVec 7) : (s.latchFlag f).evidenceEpoch = s.evidenceEpoch := rfl

/-- Outside the time between a boundary and the engine's work at it, the engine goes by the station's number. -/
theorem State.evidenceEpoch_of_ne (h : s.due.evidence ≠ 1) : s.evidenceEpoch = s.ctl.epoch := if_neg h

/-! ### Reading back what was written -/

@[simp] theorem State.record_setAccusations (l : List Accusation) (x : Nat) : (s.setAccusations l).record x = s.record x := rfl
@[simp] theorem State.record_setEntry (y : Nat) (e : RosterEntry) (x : Nat) : (s.setEntry y e).record x = s.record x := rfl
@[simp] theorem State.record_setBuffer (l : List TxNote) (x : Nat) : (s.setBuffer l).record x = s.record x := rfl
@[simp] theorem State.record_latchFlag (f : BitVec 7) (x : Nat) : (s.latchFlag f).record x = s.record x := rfl
@[simp] theorem State.entry_setRecord (y : Nat) (r : BoardRecord) (x : Nat) : (s.setRecord y r).entry x = s.entry x := rfl
@[simp] theorem State.entry_setAccusations (l : List Accusation) (x : Nat) : (s.setAccusations l).entry x = s.entry x := rfl
@[simp] theorem State.entry_setBuffer (l : List TxNote) (x : Nat) : (s.setBuffer l).entry x = s.entry x := rfl
@[simp] theorem State.entry_latchFlag (f : BitVec 7) (x : Nat) : (s.latchFlag f).entry x = s.entry x := rfl

/-- A record written is the record read, in a state whose tables have their 24 entries. -/
theorem State.record_setRecord_same (h : s.eng.records.length = 24) (x : Nat) (hx : isSlot x = true) (r : BoardRecord) :
    (s.setRecord x r).record x = r := by
  simp only [isSlot, Bool.and_eq_true, decide_eq_true_eq] at hx
  simp [State.record, State.setRecord, h, show x - 1 < 24 by omega]

/-- Writing one record leaves the others. -/
theorem State.record_setRecord_other (x y : Nat) (hx : isSlot x = true) (hy : isSlot y = true) (hne : y ≠ x) (r : BoardRecord) :
    (s.setRecord x r).record y = s.record y := by
  simp only [isSlot, Bool.and_eq_true, decide_eq_true_eq] at hx hy
  have : x - 1 ≠ y - 1 := by omega
  simp [State.record, State.setRecord, this]

/-- A roster entry written is the entry read, in a state whose tables have their 24 entries. -/
theorem State.entry_setEntry_same (h : s.rcv.roster.length = 24) (x : Nat) (hx : isSlot x = true) (e : RosterEntry) :
    (s.setEntry x e).entry x = e := by
  simp only [isSlot, Bool.and_eq_true, decide_eq_true_eq] at hx
  simp [State.entry, State.setEntry, h, show x - 1 < 24 by omega]

/-- Writing one roster entry leaves the others. -/
theorem State.entry_setEntry_other (x y : Nat) (hx : isSlot x = true) (hy : isSlot y = true) (hne : y ≠ x) (e : RosterEntry) :
    (s.setEntry x e).entry y = s.entry y := by
  simp only [isSlot, Bool.and_eq_true, decide_eq_true_eq] at hx hy
  have : x - 1 ≠ y - 1 := by omega
  simp [State.entry, State.setEntry, this]

end Sys2Proof.Machine
end

