-- ==== Sys2Proof/Laws/Ops.lean ====
section
/-! SUPPORT. What the shared operations can do and what they leave alone: one lemma per operation, to be cited instead of unfolding it. -/

namespace Sys2Proof.Machine

/-! ### Posting a notice -/

/-- Everything a post can do: append the notice, or mark the newest one and latch NOTICE_OVERRUN. -/
theorem State.post_cases (s : State) (b : NoticeBody) :
    (s.lnk.notices.length < 32 ∧
      s.post b = { s with lnk := { s.lnk with
        notices := s.lnk.notices ++ [{ body := b, epoch := s.ctl.epoch, overrun := false }] } }) ∨
    (32 ≤ s.lnk.notices.length ∧
      s.post b = { s with lnk := { s.lnk with
        notices := markNewest s.lnk.notices, flags := s.lnk.flags ||| noticeOverrun,
        relatched := s.lnk.relatched ||| noticeOverrun } }) := by
  by_cases h : s.lnk.notices.length < 32
  · left; exact ⟨h, by simp [State.post, h]⟩
  · right; exact ⟨by omega, by simp [State.post, h, State.latchFlag]⟩

variable (s : State) (b : NoticeBody)

@[simp] theorem State.post_ctl : (s.post b).ctl = s.ctl := by unfold State.post; split <;> rfl
@[simp] theorem State.post_trk : (s.post b).trk = s.trk := by unfold State.post; split <;> rfl
@[simp] theorem State.post_eng : (s.post b).eng = s.eng := by unfold State.post; split <;> rfl
@[simp] theorem State.post_rcv : (s.post b).rcv = s.rcv := by unfold State.post; split <;> rfl
@[simp] theorem State.post_xmt : (s.post b).xmt = s.xmt := by unfold State.post; split <;> rfl
@[simp] theorem State.post_due : (s.post b).due = s.due := by unfold State.post; split <;> rfl
@[simp] theorem State.post_choices : (s.post b).choices = s.choices := by unfold State.post; split <;> rfl
@[simp] theorem State.post_overlaps : (s.post b).overlaps = s.overlaps := by unfold State.post; split <;> rfl
@[simp] theorem State.post_evidenceEpoch : (s.post b).evidenceEpoch = s.evidenceEpoch := by simp [State.evidenceEpoch]
@[simp] theorem State.post_pending : (s.post b).pending = s.pending := by unfold State.post; split <;> rfl
@[simp] theorem State.post_record (x : Nat) : (s.post b).record x = s.record x := by simp [State.record]
@[simp] theorem State.post_entry (x : Nat) : (s.post b).entry x = s.entry x := by simp [State.entry]

/-- The mark never changes how many notices are held. -/
@[simp] theorem markNewest_length : ∀ l : List Notice, (markNewest l).length = l.length
  | [] => rfl
  | [_] => rfl
  | _ :: m :: rest => by simp [markNewest, markNewest_length (m :: rest)]

/-- The queue never holds more than 32 notices (R164). -/
theorem State.post_keeps_bound (h : s.lnk.notices.length ≤ 32) : (s.post b).lnk.notices.length ≤ 32 := by
  obtain ⟨hl, he⟩ | ⟨_, he⟩ := s.post_cases b <;> rw [he] <;> simp <;> omega

/-! ### What a request of the Evidence Engine can touch -/

/-- What a request of the Evidence Engine, with every verdict that follows from it, leaves alone. The tap side, the roster, what is due
and the queue stay. The Station Controller changes at most its state, its latch and its held-over trigger: RUNNING may become
QUARANTINED, and a set latch stays set. -/
structure EngineFrame (s t : State) : Prop where
  trk : t.trk = s.trk
  rcv : t.rcv = s.rcv
  due : t.due = s.due
  pending : t.pending = s.pending
  choices : t.choices = s.choices
  overlaps : t.overlaps = s.overlaps
  ctl : t.ctl = { s.ctl with station := t.ctl.station, latch := t.ctl.latch, held := t.ctl.held }
  station : t.ctl.station = s.ctl.station ∨ (s.ctl.station = .running ∧ t.ctl.station = .quarantined)
  latch : s.ctl.latch = true → t.ctl.latch = true

theorem EngineFrame.refl (s : State) : EngineFrame s s :=
  ⟨rfl, rfl, rfl, rfl, rfl, rfl, rfl, .inl rfl, id⟩

theorem EngineFrame.trans {s t u : State} (h : EngineFrame s t) (k : EngineFrame t u) : EngineFrame s u where
  trk := k.trk.trans h.trk
  rcv := k.rcv.trans h.rcv
  due := k.due.trans h.due
  pending := k.pending.trans h.pending
  choices := k.choices.trans h.choices
  overlaps := k.overlaps.trans h.overlaps
  ctl := by rw [k.ctl, h.ctl]
  station := by
    obtain h1 | ⟨h1, h2⟩ := h.station <;> obtain k1 | ⟨k1, k2⟩ := k.station
    · exact .inl (k1.trans h1)
    · exact .inr ⟨h1 ▸ k1, k2⟩
    · exact .inr ⟨h1, k1.trans h2⟩
    · exact .inr ⟨h1, k2⟩
  latch := fun hl => k.latch (h.latch hl)

/-- The configuration record is not touched. -/
theorem EngineFrame.config {s t : State} (h : EngineFrame s t) : t.ctl.config = s.ctl.config := by rw [h.ctl]

/-- The epoch number is not touched. -/
theorem EngineFrame.epoch {s t : State} (h : EngineFrame s t) : t.ctl.epoch = s.ctl.epoch := by rw [h.ctl]

/-- The number that the Evidence Engine goes by is not touched. -/
theorem EngineFrame.evidenceEpoch {s t : State} (h : EngineFrame s t) : t.evidenceEpoch = s.evidenceEpoch := by
  simp only [State.evidenceEpoch, h.due, h.epoch]

/-- The own slot is not touched. -/
theorem EngineFrame.ownSlot {s t : State} (h : EngineFrame s t) : t.ownSlot = s.ownSlot := by
  simp only [State.ownSlot]; rw [h.ctl]

theorem post_frame (s : State) (b : NoticeBody) : EngineFrame s (s.post b) :=
  ⟨by simp, by simp, by simp, by simp, by simp, by simp, by simp, .inl (by simp), by simp⟩

theorem setRecord_frame (s : State) (x : Nat) (r : BoardRecord) : EngineFrame s (s.setRecord x r) :=
  ⟨rfl, rfl, rfl, rfl, rfl, rfl, rfl, .inl rfl, id⟩

theorem mapRecords_frame (s : State) (f : BoardRecord → BoardRecord) : EngineFrame s (s.mapRecords f) :=
  ⟨rfl, rfl, rfl, rfl, rfl, rfl, rfl, .inl rfl, id⟩

theorem setAccusations_frame (s : State) (l : List Accusation) : EngineFrame s (s.setAccusations l) :=
  ⟨rfl, rfl, rfl, rfl, rfl, rfl, rfl, .inl rfl, id⟩

theorem setBuffer_frame (s : State) (l : List TxNote) : EngineFrame s (s.setBuffer l) :=
  ⟨rfl, rfl, rfl, rfl, rfl, rfl, rfl, .inl rfl, id⟩

theorem latchFlag_frame (s : State) (f : BitVec 7) : EngineFrame s (s.latchFlag f) :=
  ⟨rfl, rfl, rfl, rfl, rfl, rfl, rfl, .inl rfl, id⟩

theorem enqueue_frame (s : State) (n : Content) : EngineFrame s (s.enqueue n) := by
  unfold State.enqueue; split
  · exact setBuffer_frame _ _
  · exact .refl s

theorem announce_frame (s : State) (a : Nat) (k : AccKind) (t : Half) : EngineFrame s (s.announce a k t) := by
  unfold State.announce
  split
  · split
    · dsimp only
      split
      · exact (setBuffer_frame _ _).trans (latchFlag_frame _ _)
      · exact setBuffer_frame _ _
    · split
      · exact enqueue_frame _ _
      · exact latchFlag_frame _ _
  · exact .refl s

theorem changeStanding_frame (s : State) (x : Nat) (n : Standing) (k : Cause) : EngineFrame s (s.changeStanding x n k) := by
  unfold State.changeStanding; dsimp only
  split
  · exact .refl s
  · exact (setRecord_frame _ _ _).trans (post_frame _ _)

/-- Entry to QUARANTINED leaves the latch set in ENFORCE and as it was in REPORT, empties the buffer of what R93 names and posts its
notice. -/
theorem enterQuarantined_eq (c : ConfigRecord) (k : Trigger) (z : Nat) (s : State) :
    (s.enterQuarantined c k z).ctl = { s.ctl with station := .quarantined, latch := s.ctl.latch || decide (c.fence = .enforce) } ∧
    (s.enterQuarantined c k z).xmt = { s.xmt with buffer := s.xmt.buffer.filterMap quarantineNote } ∧
    (s.enterQuarantined c k z).eng = s.eng ∧ (s.enterQuarantined c k z).trk = s.trk ∧ (s.enterQuarantined c k z).rcv = s.rcv := by
  simp [State.enterQuarantined]

theorem takeTrigger_frame (c : ConfigRecord) (k : Trigger) (z : Nat) (s : State) : EngineFrame s (s.takeTrigger c k z) := by
  unfold State.takeTrigger
  split
  · rename_i h
    refine ⟨?_, ?_, ?_, ?_, ?_, ?_, ?_, .inr ⟨h, ?_⟩, ?_⟩ <;> simp +contextual [State.enterQuarantined]
  · exact ⟨rfl, rfl, rfl, rfl, rfl, rfl, rfl, .inl rfl, id⟩
  · unfold State.triggerInMute
    split
    · exact ⟨by simp, by simp, by simp, by simp, by simp, by simp, by simp, .inl (by simp), by simp⟩
    · exact .refl s
  · exact .refl s
  · exact .refl s

theorem evaluate_frame (c : ConfigRecord) (x : Nat) (s : State) : EngineFrame s (s.evaluate c x) := by
  unfold State.evaluate; dsimp only
  split
  · exact ((setRecord_frame _ _ _).trans (changeStanding_frame _ _ _ _)).trans (takeTrigger_frame _ _ _ _)
  · exact (setRecord_frame _ _ _).trans (changeStanding_frame _ _ _ _)

theorem applyItem_frame (c : ConfigRecord) (w a : Nat) (k : EvidenceKind) (n : Nat) (s : State) :
    EngineFrame s (s.applyItem c w a k n) := by
  unfold State.applyItem; split
  · exact setRecord_frame _ _ _
  · exact .refl s

theorem applyAndEvaluate_frame (c : ConfigRecord) (w a : Nat) (k : EvidenceKind) (n : Nat) (s : State) :
    EngineFrame s (s.applyAndEvaluate c w a k n) := by
  unfold State.applyAndEvaluate; split
  · exact (applyItem_frame _ _ _ _ _ _).trans (evaluate_frame _ _ _)
  · exact .refl s

theorem promote_frame (c : ConfigRecord) (s : State) : EngineFrame s (s.promote c) := by
  unfold State.promote; split
  · exact .refl s
  · exact (applyAndEvaluate_frame _ _ _ _ _ _).trans (setAccusations_frame _ _)

theorem appendEntry_frame (c : ConfigRecord) (w a : Nat) (k : AccKind) (l : Load) (s : State) :
    EngineFrame s (s.appendEntry c w a k l) := by
  unfold State.appendEntry; dsimp only
  split
  · exact setAccusations_frame _ _
  · exact (promote_frame c s).trans (setAccusations_frame _ _)

theorem addTagged_frame (c : ConfigRecord) (w a : Nat) (k : AccKind) (t : Half) (s : State) : EngineFrame s (s.addTagged c w a k t) := by
  unfold State.addTagged; split
  · split
    · exact .refl s
    · exact appendEntry_frame _ _ _ _ _ _
  · exact .refl s

theorem addSurplus_frame (c : ConfigRecord) (w a : Nat) (k : AccKind) (n : Nat) (s : State) :
    EngineFrame s (s.addSurplus c w a k n) := by
  unfold State.addSurplus; split
  · split
    · exact setAccusations_frame _ _
    · exact appendEntry_frame _ _ _ _ _ _
  · exact .refl s

/-- A fold of operations that keep the frame keeps it. -/
theorem foldl_frame {α : Type} (f : State → α → State) (h : ∀ s a, EngineFrame s (f s a)) :
    ∀ (l : List α) (s : State), EngineFrame s (l.foldl f s)
  | [], s => .refl s
  | a :: rest, s => (h s a).trans (foldl_frame f h rest (f s a))

theorem takeRebut_frame (c : ConfigRecord) (x a : Nat) (t : Half) (k : AccKind) (s : State) :
    EngineFrame s (s.takeRebut c x a t k) := by
  unfold State.takeRebut; dsimp only
  split
  · split
    · exact ((post_frame _ _).trans (setAccusations_frame _ _)).trans (applyAndEvaluate_frame _ _ _ _ _ _)
    · exact (setAccusations_frame _ _).trans (applyAndEvaluate_frame _ _ _ _ _ _)
  · exact .refl s

theorem peerQuorum_frame (c : ConfigRecord) (s : State) : EngineFrame s (s.peerQuorum c) := by
  unfold State.peerQuorum; dsimp only
  split
  · exact (changeStanding_frame _ _ _ _).trans (takeTrigger_frame _ _ _ _)
  · exact .refl s

theorem clearRecord_frame (c : ConfigRecord) (x : Nat) (k : Cause) (s : State) : EngineFrame s (s.clearRecord c x k) :=
  (setRecord_frame _ _ _).trans (changeStanding_frame _ _ _ _)

theorem evaluateAll_frame (c : ConfigRecord) (s : State) : EngineFrame s (s.evaluateAll c) :=
  foldl_frame _ (fun s x => evaluate_frame c x s) _ _

theorem applyDue_frame (c : ConfigRecord) (s : State) : EngineFrame s (s.applyDue c) := by
  unfold State.applyDue; dsimp only
  exact (foldl_frame _ (fun s e => applyItem_frame _ _ _ _ _ s) _ _).trans (setAccusations_frame _ _)

/-! ### Settling -/

theorem finishExpiries_of_quiet (s : State) (h : ∀ e ∈ s.trk.oet, e.age < 4) : s.finishExpiries = s := by
  unfold State.finishExpiries State.expireAll
  have hc : s.trk.oet.countP expiring = 0 := by
    rw [List.countP_eq_zero]; intro e he; have := h e he; simp [expiring]; omega
  split
  · rw [hc]; rfl
  · rfl

theorem finishEvidence_of_quiet (s : State) (h : s.due.evidence ≤ 1) : s.finishEvidence = s := by
  unfold State.finishEvidence
  split
  · rw [if_neg (by omega)]
  · rfl

theorem finishReceiver_of_quiet (s : State) (h : s.due.receiver ≤ 1) : s.finishReceiver = s := by
  unfold State.finishReceiver
  split
  · rw [if_neg (by omega)]
  · rfl

/-- Without a run, there is none to finish. -/
theorem finishRun_of_none (s : State) (h : s.due.run = []) : s.finishRun = s := by
  unfold State.finishRun
  split
  · rw [h]
    show ({ s with due := { s.due with run := [] } } : State) = s
    rw [← h]
  · rfl

/-- In a state that a reading may be taken from, no request of any block is there to finish. -/
theorem finishWorks_of_readable (s : State) (h : Safety.Readable s) : s.finishWorks = s := by
  unfold State.finishWorks
  rw [finishExpiries_of_quiet s h.1, finishEvidence_of_quiet s h.2.1, finishReceiver_of_quiet s h.2.2]

/-- Everything that a view finishes where the Evidence Engine's boundary work stands before its evaluation: in step 2 the witnesses that
have expired leave their records, in steps 3 and 4 nothing changes. -/
theorem finishForView_parts (c : ConfigRecord) (s : State) (hc : s.ctl.config = some c) (ho : ∀ e ∈ s.trk.oet, e.age < 4)
    (hr : s.due.receiver ≤ 1) :
    (s.due.evidence = 2 → s.finishForView = (s.expireWitnesses c).setEvidenceDue 3) ∧
    (s.due.evidence ≠ 2 → s.due.evidence < 5 → s.finishForView = s) := by
  have hx := finishExpiries_of_quiet s ho
  refine ⟨fun h2 => ?_, fun h2 h5 => ?_⟩
  · have he : s.finishEvidenceForView = (s.expireWitnesses c).setEvidenceDue 3 := by
      simp only [State.finishEvidenceForView, hc, h2, if_true, State.evidenceUpTo]
      rfl
    rw [State.finishForView, hx, he]
    exact finishReceiver_of_quiet _ hr
  · have he : s.finishEvidenceForView = s := by
      simp only [State.finishEvidenceForView, hc]
      rw [if_neg h2, if_neg (by omega)]
    rw [State.finishForView, hx, he, finishReceiver_of_quiet s hr]

/-- In a state where no request and no run is partway, settling does nothing. -/
theorem settle_of_quiet (s : State) (h : Safety.Quiet s) : s.settle = s := by
  rw [State.settle, finishRun_of_none s h.2, finishWorks_of_readable s h.1]

/-! ### Runs -/

/-- Requests carried out one part after another. -/
theorem carryOutAll_append (c : ConfigRecord) (l m : List Request) (s : State) :
    s.carryOutAll c (l ++ m) = (s.carryOutAll c l).carryOutAll c m := by simp [State.carryOutAll]

/-- Everything the beginning of a run can do: carry out its first requests and hold the rest, as many as the next overlap says. -/
theorem beginRun_parts (c : ConfigRecord) (run : List Request) (s : State) :
    ∃ (done held : List Request) (t : State), run = done ++ held ∧ held.length = min (s.overlaps.headD 0) run.length ∧
      t = ({ s with overlaps := s.overlaps.tail } : State).carryOutAll c done ∧
      s.beginRun c run = { t with due := { t.due with run := held } } :=
  ⟨_, _, _, (List.take_append_drop (run.length - s.overlaps.headD 0) run).symm, by simp; omega, rfl, rfl⟩

/-- Without an overlap the whole run is carried out at once. -/
theorem beginRun_whole (c : ConfigRecord) (run : List Request) (s : State) (h : s.overlaps.headD 0 = 0) :
    s.beginRun c run =
      let t := ({ s with overlaps := s.overlaps.tail } : State).carryOutAll c run
      { t with due := { t.due with run := [] } } := by
  simp only [State.beginRun, h, Nat.sub_zero, List.take_length, List.drop_length]

end Sys2Proof.Machine
end

