-- ==== Sys2Proof/Laws/Cases.lean ====
section
/-! SUPPORT. For each shared operation, once, everything it can do: what the statements' proofs cite in place of its definition. -/

namespace Sys2Proof.Machine

/-! ### The transmit buffer -/

/-- Queueing puts one waiting note at the tail, in a pool with a free slot, or does nothing. -/
theorem enqueue_cases (s : State) (n : Content) :
    (∃ p, placeFor s.xmt.buffer n.kind = some p ∧ s.enqueue n = s.setBuffer (s.xmt.buffer ++ [newNote n p])) ∨
    (placeFor s.xmt.buffer n.kind = none ∧ s.enqueue n = s) := by
  unfold State.enqueue
  cases h : placeFor s.xmt.buffer n.kind with
  | some p => exact .inl ⟨p, rfl, rfl⟩
  | none => exact .inr ⟨rfl, rfl⟩

/-- A place found has a free slot, and the pool may hold the kind. -/
theorem placeFor_free (b : List TxNote) (k : NoteKind) (p : Pool) (h : placeFor b k = some p) :
    poolUse b p < poolSize p ∧ Safety.poolHolds p k = true := by
  have free : ∀ q, poolFree b q = true → poolUse b q < poolSize q := fun q hq => by simpa [poolFree] using hq
  cases k <;> simp only [placeFor] at h
  all_goals
    split at h
    · rename_i hf
      cases h
      exact ⟨free _ hf, rfl⟩
  · cases h
  · cases h
  all_goals
    split at h
    · rename_i hf
      cases h
      exact ⟨free _ hf, rfl⟩
    · cases h

/-- An announcement in RUNNING is merged, queued or dropped; elsewhere nothing happens. -/
theorem announce_cases (s : State) (a : Nat) (k : AccKind) (t : Half) :
    s.announce a k t = s ∨
    (s.ctl.station = .running ∧
      ((∃ i, s.xmt.buffer.findIdx? (mergeTarget a k) = some i ∧
          (s.announce a k t = s.setBuffer (s.xmt.buffer.modify i (mergeTag t)) ∨
            s.announce a k t = (s.setBuffer (s.xmt.buffer.modify i (mergeTag t))).latchFlag noteDropped)) ∨
        (s.xmt.buffer.findIdx? (mergeTarget a k) = none ∧
          (s.announce a k t = s.enqueue (.accuse a k [t] 0) ∨ s.announce a k t = s.latchFlag noteDropped)))) := by
  unfold State.announce
  by_cases hr : s.ctl.station = .running
  · refine .inr ⟨hr, ?_⟩
    rw [if_pos hr]
    cases hf : s.xmt.buffer.findIdx? (mergeTarget a k) with
    | some i =>
      refine .inl ⟨i, rfl, ?_⟩
      dsimp only
      split
      · exact .inr rfl
      · exact .inl rfl
    | none =>
      refine .inr ⟨rfl, ?_⟩
      dsimp only
      split
      · exact .inl rfl
      · exact .inr rfl
  · exact .inl (by rw [if_neg hr])

/-! ### Quarantine and MUTE -/

/-- A trigger quarantines a RUNNING station, is held over in ENROLLING, may set the latch in MUTE, and else does nothing. -/
theorem takeTrigger_cases (c : ConfigRecord) (k : Trigger) (z : Nat) (s : State) :
    (s.ctl.station = .running ∧ s.takeTrigger c k z = s.enterQuarantined c k z) ∨
    (s.ctl.station = .enrolling ∧
      s.takeTrigger c k z = { s with ctl := { s.ctl with held := some { kind := k, zones := z } } }) ∨
    ((∃ r, s.ctl.station = .mute r) ∧ c.fence = .enforce ∧ s.ctl.latch = false ∧
      s.takeTrigger c k z = ({ s with ctl := { s.ctl with latch := true } }).post (.quarantine .latchSet k true z)) ∨
    s.takeTrigger c k z = s := by
  unfold State.takeTrigger
  cases h : s.ctl.station with
  | running => exact .inl ⟨rfl, rfl⟩
  | enrolling => exact .inr (.inl ⟨rfl, rfl⟩)
  | mute r =>
    dsimp only [State.triggerInMute]
    split
    · rename_i hc
      exact .inr (.inr (.inl ⟨⟨r, rfl⟩, hc.1, hc.2, rfl⟩))
    · exact .inr (.inr (.inr rfl))
  | quarantined => exact .inr (.inr (.inr rfl))
  | unconfigured => exact .inr (.inr (.inr rfl))

/-- The state just after the first three steps of entry to MUTE (R153). -/
def State.muted (d : MuteDetail) (s : State) : State :=
  ({ s with ctl := { s.ctl with station := .mute d.reason, held := none }, xmt := { s.xmt with buffer := [] }, trk := Tracker.reset }).post
    (.muted d (some s.ctl.station) s.ctl.latch)

/-- Entry to MUTE is its first three steps, and a held-over trigger in MUTE where the station leaves ENROLLING condemned. -/
theorem enterMute_cases (c : ConfigRecord) (d : MuteDetail) (s : State) :
    s.enterMute c d = s.muted d ∨
    (∃ h, s.ctl.station = .enrolling ∧ s.ctl.held = some h ∧ s.ownCondemned = true ∧
      s.enterMute c d = (s.muted d).triggerInMute c h.kind h.zones) := by
  unfold State.enterMute
  dsimp only
  split
  · rename_i h hs hh
    split
    · rename_i hc
      exact .inr ⟨h, hs, hh, hc, rfl⟩
    · exact .inl rfl
  · exact .inl rfl

/-! ### Evidence -/

/-- An addition to the list leaves it, counts into one entry, or appends one stamped entry after an early promotion where it is full. -/
theorem addTagged_cases (c : ConfigRecord) (x a : Nat) (k : AccKind) (t : Half) (s : State) :
    s.addTagged c x a k t = s ∨
    (isSlot x = true ∧ isSlot a = true ∧ s.eng.accusations.any (isTagged x a t) = false ∧
      s.addTagged c x a k t = s.appendEntry c x a k (.tagged t)) := by
  unfold State.addTagged
  split
  · rename_i h
    split
    · exact .inl rfl
    · rename_i hn
      exact .inr ⟨(Bool.and_eq_true _ _ ▸ h).1, (Bool.and_eq_true _ _ ▸ h).2, by simpa using hn, rfl⟩
  · exact .inl rfl

/-- An observation goes to both blocks in one of two orders in RUNNING, to the list alone in QUARANTINED, and else nowhere. -/
theorem observe_cases (c : ConfigRecord) (a : Nat) (k : AccKind) (t : Half) (s : State) :
    s.observe c a k t = s ∨
    (s.ctl.station = .quarantined ∧ s.observe c a k t = s.addTagged c s.ownSlot a k t) ∨
    (s.ctl.station = .running ∧
      ((s.observe c a k t =
          (({ s with choices := s.choices + 1 } : State).announce a k t).addTagged c
            (({ s with choices := s.choices + 1 } : State).announce a k t).ownSlot a k t) ∨
        (s.observe c a k t = (({ s with choices := s.choices + 1 } : State).addTagged c s.ownSlot a k t).announce a k t))) := by
  unfold State.observe
  cases h : s.ctl.station with
  | running =>
    refine .inr (.inr ⟨rfl, ?_⟩)
    dsimp only
    split
    · exact .inl (by rw [(announce_frame _ a k t).ownSlot])
    · exact .inr rfl
  | quarantined => exact .inr (.inl ⟨rfl, rfl⟩)
  | unconfigured => exact .inl rfl
  | enrolling => exact .inl rfl
  | mute r => exact .inl rfl

/-! ### The tracker -/

/-- What remains after a removal is what was there without the entry that the test picked first. -/
theorem removeExchange_sublist (c : ConfigRecord) (p : OetEntry → Bool) (s : State) :
    (s.removeExchange c p).trk.oet.Sublist s.trk.oet := List.eraseP_sublist

/-- Processing a record changes only the tracker, but for the flag of a refused request and for a CORRUPT observation. -/
theorem insertExchange_cases (c : ConfigRecord) (r : TapEntry) (s : State) :
    (s.trk.oet.length < 64 ∧ s.insertExchange c r = { s with trk := { s.trk with
      oet := s.trk.oet ++ [{ dir := r.dir, peer := r.peer, tag := r.tag, cls := r.cls, age := 0 }],
      level := raisedLevel c (s.trk.oet.length + 1) s.trk.level } }) ∨
    (64 ≤ s.trk.oet.length ∧
      s.insertExchange c r = ({ s with trk := { s.trk with satMark := true } }).latchFlag samplingSaturated) := by
  unfold State.insertExchange
  by_cases h : s.trk.oet.length < 64
  · exact .inl ⟨h, by rw [if_pos h]⟩
  · exact .inr ⟨by omega, by rw [if_neg h]⟩

/-! ### The roster -/

/-- The first conflict on a slot sets its flag and posts one notice; a later one does nothing. -/
theorem noteConflict_cases (x : Nat) (kept : Word) (refused : Refused) (s : State) :
    s.noteConflict x kept refused = s ∨
    s.noteConflict x kept refused =
      (s.setEntry x { s.entry x with conflictSeen := true }).post (.slotConflict x kept refused) := by
  unfold State.noteConflict
  split
  · exact .inl rfl
  · exact .inr rfl

/-- The comparison of a digest leaves the entry, or sets its match and posts one notice. -/
theorem compareDigest_cases (x : Nat) (d : Half) (s : State) :
    ((s.entry x).matched = decide (s.ctl.digest = some d) ∧ s.compareDigest x d = s) ∨
    ((s.entry x).matched ≠ decide (s.ctl.digest = some d) ∧
      s.compareDigest x d = (s.setEntry x { s.entry x with matched := decide (s.ctl.digest = some d) }).post
        (.mismatch x (decide (s.ctl.digest = some d)) d)) := by
  unfold State.compareDigest
  by_cases h : (s.entry x).matched = decide (s.ctl.digest = some d)
  · exact .inl ⟨h, if_pos h⟩
  · exact .inr ⟨h, if_neg h⟩

/-- A refresh makes the entry PRESENT with lapse counter 0, with a notice where it was not PRESENT. -/
theorem refreshPresence_cases (x : Nat) (s : State) :
    ((s.entry x).presence = .present ∧
      s.refreshPresence x = s.setEntry x { s.entry x with lapse := 0, presence := .present }) ∨
    ((s.entry x).presence ≠ .present ∧
      s.refreshPresence x = (s.setEntry x { s.entry x with lapse := 0, presence := .present }).post
        (.presence x (s.entry x).presence .present)) := by
  unfold State.refreshPresence
  by_cases h : (s.entry x).presence = .present
  · exact .inl ⟨h, if_pos h⟩
  · exact .inr ⟨h, if_neg h⟩

/-- A count of an accepted note raises the sender's counter by one, up to 256; the note that brings it above N mutes the sender and gives
one direct BABBLE item as well. -/
theorem countAccepted_cases (c : ConfigRecord) (x : Nat) (s : State) :
    ((s.entry x).accepted ≠ c.babble ∧
      s.countAccepted c x = s.setEntry x { s.entry x with accepted := min 256 ((s.entry x).accepted + 1) }) ∨
    ((s.entry x).accepted = c.babble ∧
      let t := s.setEntry x { s.entry x with accepted := min 256 ((s.entry x).accepted + 1) }
      s.countAccepted c x = (t.setEntry x { t.entry x with mute := 2 }).applyAndEvaluate c s.ownSlot x .babble 1) := by
  unfold State.countAccepted
  by_cases h : (s.entry x).accepted = c.babble
  · exact .inr ⟨h, if_pos h⟩
  · exact .inl ⟨h, if_neg h⟩

/-! ### The bus receiver -/

/-- Everything the taking of a reception can do: pass it over, take the note it spells, discard it at the note's end or for a framing
error, or discard it as incomplete. -/
theorem takeReception_cases (r : Reception) (s : State) :
    (s.hears = false ∧ s.takeReception r = s) ∨
    (s.hears = true ∧ ∃ n, judge r.bytes = some n ∧ s.takeReception r = s.takeNote n) ∨
    (s.hears = true ∧ judge r.bytes = none ∧ (noteEnded r.bytes = true ∨ r.ending = .dominantStop) ∧
      s.takeReception r = s.discardGarbled) ∨
    (s.hears = true ∧ judge r.bytes = none ∧ noteEnded r.bytes = false ∧ r.ending = .lineIdle ∧
      s.takeReception r = s.discardIncomplete) := by
  cases hh : s.hears with
  | false => exact .inl ⟨rfl, by simp [State.takeReception, hh]⟩
  | true =>
    cases hj : judge r.bytes with
    | some n => exact .inr (.inl ⟨rfl, n, rfl, by simp [State.takeReception, hh, hj]⟩)
    | none =>
      cases he : noteEnded r.bytes with
      | true => exact .inr (.inr (.inl ⟨rfl, rfl, .inl rfl, by simp [State.takeReception, hh, hj, he]⟩))
      | false =>
        cases hr : r.ending with
        | dominantStop => exact .inr (.inr (.inl ⟨rfl, rfl, .inr rfl, by simp [State.takeReception, hh, hj, he, hr]⟩))
        | lineIdle => exact .inr (.inr (.inr ⟨rfl, rfl, rfl, rfl, by simp [State.takeReception, hh, hj, he, hr]⟩))

/-! ### The rebuttal path -/

/-- An offered REBUT is queued and taken by the own engine, or dropped with its flag, in RUNNING; elsewhere nothing happens. -/
theorem offerRebut_cases (c : ConfigRecord) (a : Nat) (k : AccKind) (t : Half) (s : State) :
    (s.ctl.station ≠ .running ∧ s.offerRebut c a k t = s) ∨
    (s.ctl.station = .running ∧
      ((∃ p, placeFor s.xmt.buffer .rebut = some p ∧
          s.offerRebut c a k t = (s.setBuffer (s.xmt.buffer ++ [newNote (.rebut a t k) p])).takeRebut c s.ownSlot a t k) ∨
        (placeFor s.xmt.buffer .rebut = none ∧ s.offerRebut c a k t = s.latchFlag noteDropped))) := by
  unfold State.offerRebut
  by_cases hr : s.ctl.station = .running
  · refine .inr ⟨hr, ?_⟩
    rw [if_pos hr]
    cases hp : placeFor s.xmt.buffer .rebut with
    | some p => exact .inl ⟨p, rfl, by simp only [State.enqueue, Content.kind, hp]⟩
    | none => exact .inr ⟨rfl, rfl⟩
  · exact .inl ⟨hr, if_neg hr⟩

/-- A lookup offers a REBUT where the own answer was good, and else does nothing. -/
theorem lookupAndRebut_cases (c : ConfigRecord) (a : Nat) (k : AccKind) (t : Half) (s : State) :
    (lookupAnswer s.trk.answers a t = some true ∧ s.lookupAndRebut c a k t = s.offerRebut c a k t) ∨
    (lookupAnswer s.trk.answers a t ≠ some true ∧ s.lookupAndRebut c a k t = s) := by
  unfold State.lookupAndRebut
  by_cases h : lookupAnswer s.trk.answers a t = some true
  · exact .inl ⟨h, if_pos h⟩
  · exact .inr ⟨h, if_neg h⟩

end Sys2Proof.Machine
end

