-- ==== Sys2Proof/Laws/Evidence.lean ====
section
/-! SUPPORT. What the Evidence Engine's operations make of each single board record: read one record after an operation and get a plain
function of the record before it. -/

namespace Sys2Proof.Machine

open Sys2Proof

/-! ### Tables keep their size -/

theorem takeTrigger_eng (c : ConfigRecord) (k : Trigger) (z : Nat) (s : State) : (s.takeTrigger c k z).eng = s.eng := by
  unfold State.takeTrigger
  split
  · exact (enterQuarantined_eq c k z s).2.2.1
  · rfl
  · unfold State.triggerInMute; split
    · simp
    · rfl
  · rfl
  · rfl

@[simp] theorem takeTrigger_record (c : ConfigRecord) (k : Trigger) (z : Nat) (s : State) (x : Nat) :
    (s.takeTrigger c k z).record x = s.record x := by simp [State.record, takeTrigger_eng]

theorem changeStanding_accusations (x : Nat) (n : Standing) (k : Cause) (s : State) :
    (s.changeStanding x n k).eng.accusations = s.eng.accusations := by
  unfold State.changeStanding; dsimp only; split <;> simp

theorem changeStanding_length (x : Nat) (n : Standing) (k : Cause) (s : State) :
    (s.changeStanding x n k).eng.records.length = s.eng.records.length := by
  unfold State.changeStanding; dsimp only; split <;> simp

theorem evaluate_accusations (c : ConfigRecord) (x : Nat) (s : State) : (s.evaluate c x).eng.accusations = s.eng.accusations := by
  unfold State.evaluate; dsimp only; split <;> simp [takeTrigger_eng, changeStanding_accusations]

theorem evaluate_length (c : ConfigRecord) (x : Nat) (s : State) : (s.evaluate c x).eng.records.length = s.eng.records.length := by
  unfold State.evaluate; dsimp only; split <;> simp [takeTrigger_eng, changeStanding_length]

theorem applyItem_accusations (c : ConfigRecord) (w a : Nat) (k : EvidenceKind) (n : Nat) (s : State) :
    (s.applyItem c w a k n).eng.accusations = s.eng.accusations := by
  unfold State.applyItem; split <;> simp

theorem applyItem_length (c : ConfigRecord) (w a : Nat) (k : EvidenceKind) (n : Nat) (s : State) :
    (s.applyItem c w a k n).eng.records.length = s.eng.records.length := by
  unfold State.applyItem; split <;> simp

theorem applyAndEvaluate_accusations (c : ConfigRecord) (w a : Nat) (k : EvidenceKind) (n : Nat) (s : State) :
    (s.applyAndEvaluate c w a k n).eng.accusations = s.eng.accusations := by
  unfold State.applyAndEvaluate; split
  · rw [evaluate_accusations, applyItem_accusations]
  · rfl

theorem applyAndEvaluate_length (c : ConfigRecord) (w a : Nat) (k : EvidenceKind) (n : Nat) (s : State) :
    (s.applyAndEvaluate c w a k n).eng.records.length = s.eng.records.length := by
  unfold State.applyAndEvaluate; split
  · rw [evaluate_length, applyItem_length]
  · rfl

/-! ### One record after one operation -/

/-- A record after one evaluation (R52 to R56). -/
def evaluatedRecord (c : ConfigRecord) (x : Nat) (r : BoardRecord) : BoardRecord :=
  let z := independentZones c x r.witnesses
  let new := newStanding c r.standing r.score z
  { r with standing := new, cause := if new = r.standing then r.cause else some .evidence, quorumShort := shortOfQuorum c r.score z }

theorem changeStanding_record (x : Nat) (n : Standing) (k : Cause) (s : State) (h : s.eng.records.length = 24) (hx : isSlot x = true) :
    (s.changeStanding x n k).record x =
      { s.record x with standing := n, cause := if (s.record x).standing = n then (s.record x).cause else some k } := by
  unfold State.changeStanding; dsimp only
  split
  · rename_i e; rw [← e]
  · rw [State.post_record, State.record_setRecord_same _ h _ hx]

theorem changeStanding_record_other (x y : Nat) (n : Standing) (k : Cause) (s : State) (hx : isSlot x = true) (hy : isSlot y = true)
    (hne : y ≠ x) : (s.changeStanding x n k).record y = s.record y := by
  unfold State.changeStanding; dsimp only
  split
  · rfl
  · rw [State.post_record, State.record_setRecord_other _ _ _ hx hy hne]

/-- The evaluated record. -/
theorem evaluate_record (c : ConfigRecord) (x : Nat) (s : State) (h : s.eng.records.length = 24) (hx : isSlot x = true) :
    (s.evaluate c x).record x = evaluatedRecord c x (s.record x) := by
  have key : ∀ n, ((s.setRecord x { s.record x with
      quorumShort := shortOfQuorum c (s.record x).score (independentZones c x (s.record x).witnesses) }).changeStanding x n .evidence).record
        x = { s.record x with
          quorumShort := shortOfQuorum c (s.record x).score (independentZones c x (s.record x).witnesses), standing := n,
          cause := if (s.record x).standing = n then (s.record x).cause else some .evidence } := by
    intro n
    rw [changeStanding_record _ _ _ _ (by simp [h]) hx, State.record_setRecord_same _ h _ hx]
  unfold State.evaluate; dsimp only
  split <;> simp only [takeTrigger_record, key, evaluatedRecord, eq_comm]

/-- Every other record stays. -/
theorem evaluate_record_other (c : ConfigRecord) (x y : Nat) (s : State) (hx : isSlot x = true) (hy : isSlot y = true) (hne : y ≠ x) :
    (s.evaluate c x).record y = s.record y := by
  unfold State.evaluate; dsimp only
  split <;> simp [changeStanding_record_other _ _ _ _ _ hx hy hne, State.record_setRecord_other _ _ _ hx hy hne]

theorem applyItem_record (c : ConfigRecord) (w a : Nat) (k : EvidenceKind) (n : Nat) (s : State) (h : s.eng.records.length = 24)
    (hw : isSlot w = true) (ha : isSlot a = true) :
    (s.applyItem c w a k n).record a = appliedRecord c s.evidenceEpoch w a k n (s.record a) := by
  simp [State.applyItem, hw, ha, State.record_setRecord_same _ h _ ha]

theorem applyItem_record_other (c : ConfigRecord) (w a y : Nat) (k : EvidenceKind) (n : Nat) (s : State) (hy : isSlot y = true)
    (hne : y ≠ a) : (s.applyItem c w a k n).record y = s.record y := by
  unfold State.applyItem
  split
  · rename_i h; rw [Bool.and_eq_true] at h; exact State.record_setRecord_other _ _ _ h.2 hy hne _
  · rfl

/-- The record of a direct item or an early promotion (R42). -/
theorem applyAndEvaluate_record (c : ConfigRecord) (w a : Nat) (k : EvidenceKind) (n : Nat) (s : State)
    (h : s.eng.records.length = 24) (hw : isSlot w = true) (ha : isSlot a = true) :
    (s.applyAndEvaluate c w a k n).record a = evaluatedRecord c a (appliedRecord c s.evidenceEpoch w a k n (s.record a)) := by
  simp only [State.applyAndEvaluate, hw, ha, Bool.and_self, if_true]
  rw [evaluate_record _ _ _ (by rw [applyItem_length]; exact h) ha, applyItem_record _ _ _ _ _ _ h hw ha]

/-! ### One record after a step of the boundary work -/

/-- A change of every record, read at one slot. -/
theorem mapRecords_record (s : State) (f : BoardRecord → BoardRecord) (h : s.eng.records.length = 24) (x : Nat) (hx : isSlot x = true) :
    (s.mapRecords f).record x = f (s.record x) := by
  simp only [isSlot, Bool.and_eq_true, decide_eq_true_eq] at hx
  simp [State.record, State.mapRecords, h, show x - 1 < 24 by omega]

theorem applyDue_fold_record (c : ConfigRecord) (x : Nat) (hx : isSlot x = true) :
    ∀ (l : List Accusation) (s : State), s.eng.records.length = 24 →
      (∀ e ∈ l, isSlot e.accuser = true ∧ isSlot e.accused = true) →
      (l.foldl (fun t e => t.applyEntry c e) s).record x =
        (l.filter fun e => decide (e.accused = x)).foldl
          (fun v e => appliedRecord c s.evidenceEpoch e.accuser x (evidenceOf e.kind) e.count v) (s.record x)
  | [], _, _, _ => rfl
  | e :: rest, s, h, hs => by
    have he := hs e (by simp)
    have hl : (s.applyEntry c e).eng.records.length = 24 := by rw [State.applyEntry, applyItem_length]; exact h
    have hep : (s.applyEntry c e).evidenceEpoch = s.evidenceEpoch := (applyItem_frame _ _ _ _ _ _).evidenceEpoch
    rw [List.foldl_cons, applyDue_fold_record c x hx rest _ hl (fun f hf => hs f (by simp [hf])), hep]
    by_cases hc : e.accused = x
    · subst hc
      rw [List.filter_cons_of_pos (by simp), List.foldl_cons, State.applyEntry, applyItem_record _ _ _ _ _ _ h he.1 he.2]
    · rw [List.filter_cons_of_neg (by simpa using hc), State.applyEntry, applyItem_record_other _ _ _ _ _ _ _ hx (Ne.symm hc)]

theorem evaluate_fold_record (c : ConfigRecord) (x : Nat) (hx : isSlot x = true) :
    ∀ (l : List Nat) (s : State), s.eng.records.length = 24 → l.Nodup → (∀ y ∈ l, isSlot y = true) →
      (l.foldl (fun t y => t.evaluate c y) s).record x = if x ∈ l then evaluatedRecord c x (s.record x) else s.record x
  | [], _, _, _, _ => rfl
  | y :: rest, s, h, hn, hs => by
    have hl : (s.evaluate c y).eng.records.length = 24 := by rw [evaluate_length]; exact h
    have hn' := List.nodup_cons.1 hn
    rw [List.foldl_cons, evaluate_fold_record c x hx rest _ hl hn'.2 (fun z hz => hs z (by simp [hz]))]
    by_cases hc : x = y
    · subst hc
      simp [hn'.1, evaluate_record _ _ _ h hx]
    · rw [evaluate_record_other _ _ _ _ (hs y (by simp)) hx hc]
      simp [hc]

/-- Slot x is one of the 24. -/
theorem mem_slots (x : Nat) : x ∈ slots ↔ isSlot x = true := by
  simp only [slots, List.mem_range', isSlot, Bool.and_eq_true, decide_eq_true_eq]
  constructor
  · rintro ⟨i, hi, rfl⟩; omega
  · intro h; exact ⟨x - 1, by omega, by omega⟩

/-- Each slot once. -/
theorem slots_nodup : slots.Nodup := by decide

/-- Step 4 evaluates every record once (R52). -/
theorem evaluateAll_record (c : ConfigRecord) (s : State) (h : s.eng.records.length = 24) (x : Nat) (hx : isSlot x = true) :
    (s.evaluateAll c).record x = evaluatedRecord c x (s.record x) := by
  rw [State.evaluateAll, evaluate_fold_record c x hx _ _ h slots_nodup (fun y hy => (mem_slots y).1 hy)]
  simp [(mem_slots x).2 hx]

end Sys2Proof.Machine
end

