-- ==== Sys2Proof/Tests/Slice0.lean ====
section
/-! SUPPORT. Tests: the well-formedness checks refuse ill-formed commands, the worked figures of the spec come out of the model, and the
hypotheses of every statement are met by a concrete state and operands. -/

namespace Sys2Proof.Tests

-- One thread at a time: the kernel runs below are many and small.
set_option Elab.async false

open Sys2Proof Sys2Proof.Machine Sys2Proof.Safety

/-! ### Small states -/

/-- The configuration of Table 2-10 with the additions of chapter 12: B 4, N 10, L 3, P 8, class 1 with timeout code 3, watch vector
0066h, ENFORCE; W_babble 40, watermarks 48 and 16. -/
def cfgBytes : List Byte :=
  [0, 3, 2, 24, 0, 32, 0, 96, 1, 0, 2, 0, 40, 96, 64, 40, 4, 3, 8, 4, 10, 0, 3, 0, 0, 0, 0, 0, 0, 0, 0x66, 1, 48, 16]

/-- The stored record of `cfgBytes`. -/
def cfg : ConfigRecord := configOf cfgBytes

/-- A peer's roster entry. -/
def peer (serial : Word) (role : Role) (presence : Presence) : RosterEntry :=
  { RosterEntry.reset with serial := serial, role := role, presence := presence }

/-- The roster of the test station: own slot 9, slot 5 (AUTH) and slot 17 (FRONT) PRESENT, slot 24 (POSTING) LAPSED, the rest UNSEEN. -/
def roster : List RosterEntry :=
  ((((List.replicate 24 RosterEntry.reset).set 8 (peer 0x00090009 .front .present)).set 4 (peer 0x00050005 .auth .present)).set 16
    (peer 0x00110011 .front .present)).set 23 (peer 0x00180018 .posting .lapsed)

/-- A configured station in slot 9 with an idle counted, in epoch 12. -/
def station (st : Station) : State :=
  { ctl := { inReset := false, serial := 0x00090009, slotStrap := 9, role := .front, station := st, config := some cfg,
             digest := some (digestOf cfg), msCount := 0, epoch := 12, enrolCount := 3, monitorArmed := true, tickSource := .clkin,
             latch := false, held := none },
    trk := Tracker.reset, eng := Engine.reset, rcv := { roster := roster, idleCount := 12, rxReady := true },
    xmt := { buffer := [], budget := 4, seqCounter := 0 }, lnk := Link.reset, due := Due.none, choices := 0,
    overlaps := [], pending := [] }

/-- A station after leaving reset, before CONFIGURE. -/
def unconfigured : State :=
  { station .unconfigured with
    ctl := { Controller.reset 0x00090009 false with inReset := false, slotStrap := 9 },
    rcv := { Receiver.reset with roster := (List.replicate 24 RosterEntry.reset).set 8 (peer 0x00090009 .front .present) },
    xmt := Transmitter.reset }

/-- A part held in reset. -/
def held : State := { unconfigured with ctl := Controller.reset 0x00090009 false, rcv := Receiver.reset }

/-- The state after a command. -/
def after (i : Instr) (s : State) : State :=
  match exec i s with
  | .next t => t
  | .fault _ => s
  | .refused _ => s

/-- A state with other tracker contents. -/
def withTracker (s : State) (fifo : List TapEntry) (oet : List OetEntry) (answers : List Answer) : State :=
  { s with trk := { s.trk with tapFifo := fifo, oet := oet, answers := answers } }

/-- A state with other boundary marks. -/
def withDue (s : State) (evidence receiver : Nat) : State := { s with due := { s.due with evidence := evidence, receiver := receiver } }

/-- A board record of a score and standing. -/
def scored (score : Nat) (standing : Standing) : BoardRecord :=
  { BoardRecord.reset with score := score, standing := standing, cause := some .evidence }

/-- A buffered note. -/
def noteOf (content : Content) (pool : Pool) (state : NoteState) : TxNote :=
  { content := content, pool := pool, state := state, seq := if state = .waiting then none else some 7, attempts := 0, noRetry := false }

/-- A tagged pending entry. -/
def tagged (accuser accused : Nat) (tag stamp : Half) : Accusation :=
  { accuser := accuser, accused := accused, kind := .miss, load := .tagged tag, stamp := stamp }

/-! ### Well-formedness: an ill-formed command for each check -/

theorem test_wellFormed_tapRecord : (Instr.tapRecord [0, 0, 0, 0, 0]).wellFormed = false := by decide
theorem test_wellFormed_tapRecordIncomplete : (Instr.tapRecordIncomplete [0, 0, 0, 0, 0, 0]).wellFormed = false := by decide
theorem test_wellFormed_witnessExpiry_accused : (Instr.witnessExpiry 0 1).wellFormed = false := by decide
theorem test_wellFormed_witnessExpiry_witness : (Instr.witnessExpiry 1 25).wellFormed = false := by decide
theorem test_wellFormed_probationEnd : (Instr.probationEnd 25).wellFormed = false := by decide
theorem test_wellFormed_muteEnd : (Instr.muteEnd 0).wellFormed = false := by decide
theorem test_wellFormed_lapse : (Instr.lapse 25).wellFormed = false := by decide
theorem test_wellFormed_enrol_serial :
    (Instr.receiveEnrol { sender := 5, seq := 0, serial := 0, role := .auth, digest := 0 }).wellFormed = false := by decide
theorem test_wellFormed_beacon_serial :
    (Instr.receiveBeacon { sender := 5, seq := 0, serial := 0, role := .auth, digest := 0, quarantined := false, saturated := false,
                           condemned := [] }).wellFormed = false := by decide
theorem test_wellFormed_beacon_list :
    (Instr.receiveBeacon { sender := 5, seq := 0, serial := 1, role := .auth, digest := 0, quarantined := false, saturated := false,
                           condemned := List.replicate 25 1 }).wellFormed = false := by decide
theorem test_wellFormed_accuse_none :
    (Instr.receiveAccuse { sender := 5, serialTag := 5, seq := 0, accused := 9, kind := .miss, tags := [], surplus := 0 }).wellFormed = false :=
  by decide
theorem test_wellFormed_accuse_seven :
    (Instr.receiveAccuse { sender := 5, serialTag := 5, seq := 0, accused := 9, kind := .miss, tags := [1, 2, 3, 4, 5, 6, 7],
                           surplus := 0 }).wellFormed = false := by decide
theorem test_wellFormed_configure : (Instr.configure (cfgBytes.take 33)).wellFormed = false := by decide
theorem test_wellFormed_unknownCommand : (Instr.unknownCommand 0x7E).wellFormed = false := by decide
theorem test_wellFormed_configure_whole : (Instr.configure cfgBytes).wellFormed = true := by decide

/-! ### The spec's worked figures -/

/-- R110: over the nine bytes 31h to 39h the note check is 29B1h. -/
theorem test_crc : crc16 [0x31, 0x32, 0x33, 0x34, 0x35, 0x36, 0x37, 0x38, 0x39] = 0x29B1 := by decide +kernel

/-- Table 1-2, own slot 7. -/
theorem test_tapDirection :
    [tapDirection 7 7 12, tapDirection 7 12 7, tapDirection 7 7 7, tapDirection 7 12 19, tapDirection 7 7 0, tapDirection 7 27 7] =
      [some (.outbound, 12), some (.inbound, 12), none, none, none, none] := by decide

/-- Table 1-3: the level masks of base mask 00F0h. -/
theorem test_levelMasks : (List.range 5).map (levelMask 0x00F0) = [0x00F0, 0x00F1, 0x00F3, 0x00F7, 0x00FF] := by decide +kernel

/-- Table 1-3: eligibility of five tags at levels 0 and 4. -/
theorem test_eligible :
    let c := { cfg with baseMask := 0x00F0, sampleMatch := 0x0050 }
    [0x0050, 0x0051, 0x0058, 0x0150, 0x0060].map (fun t => (tagEligible c 0 t, tagEligible c 4 t)) =
      [(true, true), (true, false), (true, false), (true, true), (false, false)] := by decide +kernel

/-- Table 2-3: zone keys under masks 0, 16, 24 and 7. -/
theorem test_zoneKeys :
    [zoneKey 0 13, zoneKey 16 15, zoneKey 16 16, zoneKey 24 7, zoneKey 24 15, zoneKey 24 23, zoneKey 24 24, zoneKey 7 16, zoneKey 7 17] =
      [13, 0, 16, 0, 8, 16, 24, 0, 1] := by decide

/-- Table 2-5: the independent-zone count for accused slot 5 under mask 24. -/
theorem test_independentZones :
    let w := fun s : Nat => ({ slot := s, key := zoneKey 24 s, epoch := 0 } : Witness)
    [[5], [3, 5], [3, 5, 9], [9, 12], [9, 17], [2, 6, 9, 17, 24]].map (fun l => independentZones cfg 5 (l.map w)) = [0, 0, 1, 1, 2, 3] := by
  decide +kernel

/-- Table 2-6: decay for d = 2, 3, 4, 5 and 6. -/
theorem test_decay :
    [4095, 512, 200, 7, 1, 0].map (fun s => [2, 3, 4, 5, 6].map fun d => decayed d s) =
      [[3071, 3583, 3839, 3967, 4031], [384, 448, 480, 496, 504], [150, 175, 187, 193, 196], [5, 6, 6, 6, 6], [0, 0, 0, 0, 0],
       [0, 0, 0, 0, 0]] := by decide +kernel

/-- Table 2-15: the largest surplus, weight and probation hold the score at 4095. -/
theorem test_scoreHolds :
    ((((station .running).setRecord 5 { BoardRecord.reset with probation := 3 }).applyItem { cfg with wMiss := 255 } 9 5 .miss 255).record
      5).score = 4095 := by decide +kernel

/-- The written record of Table 9-3. -/
def table93 : ConfigRecord :=
  configOf [7, 1, 0, 40, 0, 20, 0, 80, 1, 44, 0x13, 0x88, 40, 96, 0, 40, 4, 3, 8, 40, 60, 0, 3, 0, 0, 0x00, 0xF0, 0x03, 0x5A, 0, 0, 1,
            70, 60]

/-- Table 9-3: the record as stored. -/
theorem test_clamp :
    [table93.epochCode, table93.decay, table93.quorum, table93.zoneMask.toNat, table93.tClear, table93.tWatch, table93.tSuspect,
      table93.tCondemn, table93.wRebut] = [4, 2, 1, 31, 20, 80, 300, 4095, 1] := by decide +kernel

/-- Table 9-3: its other fields, and the babble limit it fails: 60 is below 66. -/
theorem test_clampAndTest :
    [table93.budget, table93.babble, table93.baseMask.toNat, table93.sampleMatch.toNat, table93.high, table93.low] =
      [32, 60, 0x00F0, 0x0050, 64, 56] ∧ thresholdsOrdered table93 = true ∧ babbleAllowed table93 = false := by decide +kernel

/-- Table 2-12 and the text after it: boundary 12 of section 2.8 gives slot 5 S = 200, WATCHED, z = 1, and empties the list. -/
theorem test_boundary12 :
    let s := (withDue (station .running) 1 0).setAccusations
      [tagged 9 5 0x1A04 10, tagged 3 5 0x1A10 10, tagged 9 5 0x1A2C 10, tagged 5 5 0x0C08 10, tagged 9 5 0x1A44 10, tagged 3 5 0x1A58 10]
    let t := after .evidenceBoundaryWork s
    ((t.record 5).score, (t.record 5).standing, t.shownZones 5, t.eng.accusations) = (200, .watched, 1, []) := by decide +kernel

/-- Section 2.8, boundary 15: S = 514 with z = 2 condemns slot 5. -/
theorem test_boundary15 :
    let s := ((withDue (station .running) 1 0).setRecord 5
      { BoardRecord.reset with score := 497, standing := .suspect, cause := some .evidence,
                               witnesses := [⟨3, 0, 9⟩, ⟨5, 0, 11⟩, ⟨9, 8, 11⟩, ⟨17, 16, 11⟩] }).setAccusations
      [tagged 9 5 1 10, tagged 9 5 2 10]
    let t := after .evidenceBoundaryWork s
    ((t.record 5).score, (t.record 5).standing, (t.record 5).witnesses.map Witness.slot, t.fenceMap) =
      (514, .condemned, [3, 5, 9, 17], [5]) := by decide +kernel

/-- R55: after a PENDING_ENTRY_DUE that brings a second zone, a READ VIEW shows the quorum-short flag still set beside z = 2; after the
evaluation the flag is cleared. -/
theorem test_staleQuorumShort :
    let s := ((withDue (station .running) 1 0).setRecord 5
      { scored 600 .suspect with quorumShort := true, witnesses := [⟨9, 8, 11⟩] }).setAccusations [tagged 17 5 1 10, tagged 3 24 1 10]
    let seen := fun u => let v := after (.readView 5) u; [v.lnk.response.getD 14 0, v.lnk.response.getD 16 0]
    let t := after .pendingEntryDue s
    (seen t, seen (after .evidenceBoundaryWork t)) = ([1, 2], [0, 2]) := by decide +kernel

/-- R55: a witness entry that expires leaves a cleared flag beside z = 1 of a score past T_condemn. -/
theorem test_staleAfterWitnessExpiry :
    let s := (withDue (station .running) 1 0).setRecord 5 { scored 800 .condemned with witnesses := [⟨9, 8, 1⟩, ⟨17, 16, 11⟩] }
    let t := after (.readView 5) (after (.witnessExpiry 5 9) s)
    [t.lnk.response.getD 14 0, t.lnk.response.getD 16 0] = [0, 1] := by decide +kernel

/-- R108, R98: an incomplete note leaves the line idle and the receiver ready; after a framing error the next idle is waited for. -/
theorem test_incompleteNote :
    let idleAfter := fun ending =>
      let t := after (.receiveGarbledNote { bytes := [0x0B, 0x02, 0x00], ending := ending }) (station .running)
      (t.rcv.idleCount, t.rcv.rxReady, t.lnk.flags)
    (idleAfter .lineIdle, idleAfter .dominantStop) = ((12, true, rxGarbled), (0, false, rxGarbled)) := by decide +kernel

/-- Table 12-4: the third condemns-me flag, in a second counted zone, condemns the own record with cause PEER_QUORUM and quarantines the
station with zones 2. -/
theorem test_peerQuorum :
    let listing := fun (serial : Word) => { peer serial .front .present with condemnsMe := true }
    let s := (((station .running).setEntry 12 (listing 12)).setEntry 20 (listing 20)).setEntry 2 (listing 2)
    let t := s.peerQuorum cfg
    (t.ctl.station, t.ctl.latch, (t.record 9).cause, t.lnk.notices.map Notice.body) =
      (.quarantined, true, some .peerQuorum,
       [.standing 9 .clear .condemned .peerQuorum, .quarantine .entered .peerQuorum true 2]) := by decide +kernel

/-- Table 12-6, third row: an ENROL of a smaller serial on a slot whose conflict has been seen is discarded without a notice. -/
theorem test_smallerSerial :
    let s := (station .running).setEntry 11 { peer 0x00071B00 .auth .present with conflictSeen := true }
    let t := after (.receiveEnrol { sender := 11, seq := 4, serial := 0x00052A10, role := .posting, digest := 0 }) s
    (t.rcv.roster = s.rcv.roster) ∧ t.lnk = s.lnk := by decide +kernel

/-- R134, R64: an ENROL of another serial on the LAPSED slot 24 starts its entry and record afresh. -/
theorem test_replacement :
    let s := (station .running).setRecord 24 (scored 514 .condemned)
    let t := after (.receiveEnrol { sender := 24, seq := 4, serial := 0x00071B00, role := .auth, digest := digestOf cfg }) s
    ((t.entry 24).serial, (t.entry 24).presence, (t.record 24).score, (t.record 24).probation, t.lnk.notices.map Notice.body) =
      (0x00071B00, .present, 0, 8,
       [.replaced 24 0x00180018 0x00071B00, .standing 24 .condemned .clear .replacement]) := by decide +kernel

/-- Section 12.5: on the own slot a greater serial mutes the station. -/
theorem test_ownSlotLost :
    let t := after (.receiveEnrol { sender := 9, seq := 4, serial := 0x00090010, role := .auth, digest := 0 }) (station .running)
    (t.ctl.station, t.lnk.notices.map Notice.body) =
      (.mute .slotConflict,
       [.slotConflict 9 0x00090010 (.serial 0x00090009), .muted (.slotConflict 0x00090010) (some .running) false]) := by decide +kernel

/-- Table 12-1 in QUARANTINED, where nothing is announced (R20): an expiry of the OUTBOUND entry 1A04h gives a MISS against slot 5. -/
theorem test_expiry :
    let t := after .oetEntryExpiry (withTracker (station .quarantined) [] [⟨.outbound, 5, 0x1A04, 1, 4⟩] [])
    (t.trk.oet, t.eng.accusations, t.xmt.buffer) = ([], [tagged 9 5 0x1A04 12], []) := by decide +kernel

/-- Table 12-1: a second tag of one slot and kind joins the waiting ACCUSE (R119). -/
theorem test_announce :
    ((((station .running).announce 5 .miss 0x1A04).announce 5 .miss 0x1A2C).xmt.buffer.map TxNote.content) =
      [.accuse 5 .miss [0x1A04, 0x1A2C] 0] := by decide +kernel

/-- Table 12-2: a rebuttable accusation is answered by a REBUT and a PATH notice, its entry does not stay, and REBUTTED is scored. -/
theorem test_rebuttal :
    let s := withTracker (station .running) [] [] [⟨5, 0x2C40, true⟩]
    let t := after (.receiveAccuse { sender := 5, serialTag := 5, seq := 1, accused := 9, kind := .miss, tags := [0x2C40], surplus := 0 }) s
    (t.xmt.buffer.map TxNote.content, t.lnk.notices.map Notice.body, t.eng.accusations, (t.record 5).score) =
      ([.rebut 5 0x2C40 .miss], [.path 5 9 0x2C40 .miss], [], 64) := by decide +kernel

/-- R48: an item taken after a boundary and before the Evidence Engine's work at it bears the old epoch number, and is decayed. -/
theorem test_itemBeforeTheWork :
    let s := withDue (station .running) 1 0
    let t := after (.receiveRebut { sender := 5, serialTag := 5, seq := 1, accuser := 17, tag := 1, kind := .miss }) s
    let u := after .evidenceBoundaryWork t
    ((t.record 17).score, (t.record 17).witnesses, (u.record 17).score) = (64, [⟨5, 0, 11⟩], 56) := by decide +kernel

/-- R50: a status read between the two tags of one ACCUSE shows the list with one of them; the run is finished after it. -/
theorem test_readingWithinRun :
    let s := { station .quarantined with overlaps := [2] }
    let t := after (.receiveAccuse { sender := 5, serialTag := 5, seq := 1, accused := 17, kind := .miss, tags := [1, 2], surplus := 0 }) s
    let u := after .readStatus t
    (u.lnk.response.getD 15 0, (after .flagsByteClocked u).eng.accusations.length, (after .busIdle t).eng.accusations.length) = (1, 2, 2) := by
  decide +kernel

/-- R158: the lead bytes of READ VIEW read 00h, then BAD_SLOT, then 00h; MISO is released with CS_N high. -/
theorem test_miso :
    let t := after (.readView 25) (station .running)
    ([0, 1, 2, 3, 4].map (t.miso .low), t.miso .high 3, transactionCommand .low [0x21, 25, 0x10]) =
      ([some 0, some 0, some 0, some 0x04, some 0], none, some (.readView 25)) := by decide +kernel

/-- Table 10-5: a post on a full queue marks the newest notice and latches NOTICE_OVERRUN. -/
theorem test_fullQueue :
    let n : Notice := { body := .presence 4 .unseen .present, epoch := 0, overrun := false }
    let s := { station .running with lnk := { Link.reset with notices := List.replicate 32 n } }
    let t := s.post (.standing 4 .clear .watched .evidence)
    (t.lnk.notices.length, (t.lnk.notices.getD 31 n).overrun, (t.lnk.notices.getD 30 n).overrun, t.lnk.flags) =
      (32, true, false, noticeOverrun) := by decide +kernel

/-- Table 10-5: a flag that latched again after the snapshot stays set. -/
theorem test_flagsReLatch :
    let s := { station .running with lnk := { Link.reset with flags := noticeOverrun, relatched := noticeOverrun } }
    let t := after .flagsByteClocked ((after .readStatus s).latchFlag noticeOverrun)
    (t.lnk.flags, (after .flagsByteClocked (after .readStatus s)).lnk.flags) = (noticeOverrun, 0) := by decide +kernel

/-- Table 9-4: the 64th tick of epoch code 0 is a boundary. -/
theorem test_tickBoundary :
    let s := { station .running with ctl := { (station .running).ctl with msCount := 63 } }
    ((after .msTick s).ctl.msCount, (after .msTick s).due.boundary, (after .msTick s).due.classTicks) = (64, true, [1]) := by decide +kernel

/-- Table 9-4: at the count's wrap the boundary falls and the count reads 0. -/
theorem test_tickWrap :
    let s := { station .running with ctl := { (station .running).ctl with msCount := 0xFFFF } }
    ((after .msTick s).ctl.msCount, (after .msTick s).due.boundary) = (0, true) := by decide +kernel

/-- R146: the record of Table 2-10 is accepted and the first ENROL queued. -/
theorem test_configure :
    let t := after (.configure cfgBytes) unconfigured
    (t.ctl.station, t.ctl.config, t.lnk.response, t.xmt.buffer.map (fun n => n.content.kind)) = (.enrolling, some cfg, [0x01], [.enrol]) := by
  decide +kernel

/-- R143: slot strap 25 gives MUTE(BAD_STRAP) with its notice. -/
theorem test_badStrap :
    let t := after (.leaveReset 25 2) held
    (t.ctl.station, t.ctl.role, t.lnk.notices.map Notice.body) = (.mute .badStrap, .posting, [.muted (.badStrap 25) none false]) := by
  decide +kernel

/-- R2, R167: a record whose reserved bits are set is examined as the same record without them (Table 11-2). -/
theorem test_tapRecord :
    let t := after (.tapRecord [0x1F, 0x4F, 0x2F, 0x1A, 0x04, 0x61]) (station .running)
    t.trk.tapFifo = [⟨.request, 1, true, .outbound, 5, 0x1A04⟩] := by decide +kernel

/-- R10: the saturation mark enters the next BEACON, which clears it (R114). -/
theorem test_beaconComposed :
    let s := { station .running with
      trk := { Tracker.reset with satMark := true },
      xmt := { (station .running).xmt with buffer := [noteOf (.beacon none) .beacon .waiting] } }
    let t := after .beginAttempt s
    (t.trk.satMark, t.xmt.buffer.map TxNote.content, t.xmt.seqCounter, t.xmt.budget) =
      (false, [.beacon (some ⟨0x00090009, .front, digestOf cfg, false, true, []⟩)], 1, 4) := by decide +kernel

/-- R103: the fourth read-back failure discards the note with XMIT_TROUBLE. -/
theorem test_xmitTrouble :
    let s := (station .running).setBuffer [{ noteOf (.rebut 5 1 .miss) .rebut .underWay with attempts := 3 }]
    let t := after .readBackFailure s
    (t.xmt.buffer, t.lnk.flags, t.lnk.notices.map Notice.body) = ([], xmitTroubleFlag, [.xmitTrouble .rebut 7]) := by decide +kernel

/-- Figure 6-3, its note and Table 6-9: slot 12 loses to slot 9, an ACCUSE of slot 1 to a REBUT of slot 24, a REBUT of 67h to 31h, and not
the other way round; equal fields do not lose. -/
theorem test_losesArbitration :
    [losesArbitration 0x19 0x13, losesArbitration 0x13 0x13, losesArbitration 131 113, losesArbitration 113 131, losesArbitration 0x67 0x31] =
      [true, false, true, false, true] := by decide

/-- R100: a REBUT of slot 9 sends arbitration field 01 01001 1; an ENROL of slot 5 keeps the line with 00 00101 1. -/
theorem test_arbitration :
    let s := (station .running).setBuffer [noteOf (.rebut 5 1 .miss) .rebut .underWay]
    arbitrationField .rebut 9 = 0x53 ∧
    (after (.arbitrationLost 0x0B) s).xmt.buffer = [noteOf (.rebut 5 1 .miss) .rebut .retryHead] ∧
    after (.arbitrationLost 0x53) s = s := by decide +kernel

/-- Table 12-5: the own release returns the station to RUNNING with its two notices. -/
theorem test_ownRelease :
    let s0 := (station .quarantined).setRecord 9 (scored 514 .condemned)
    let s := { s0 with ctl := { s0.ctl with latch := true } }
    let t := after (.release 9) s
    (t.ctl.station, t.ctl.latch, (t.record 9).standing, (t.record 9).probation, t.lnk.notices.map Notice.body, t.lnk.response) =
      (.running, false, .clear, 8, [.standing 9 .condemned .clear .release, .quarantine .left .release false 0], [0x01]) := by
  decide +kernel

/-! ### Witnesses: the hypotheses of the statements, clause by clause -/

/-- A tap frame: kind, source slot, destination slot; class 1, frame check good, tag 1A04h. -/
def frame (kind source destination : Nat) : List Byte :=
  let b : List Byte := [BitVec.ofNat 8 (kind * 64 + 16 + 8), BitVec.ofNat 8 (source * 8), BitVec.ofNat 8 (destination * 8), 0x1A, 0x04]
  b ++ [b.foldl (· ^^^ ·) 0]

/-- An outstanding exchange with slot 5 under a tag. -/
def open5 (tag : Half) (age : Nat) : OetEntry := { dir := .outbound, peer := 5, tag := tag, cls := 1, age := age }

/-- A record at the head of the tap FIFO: class 1, from or to slot 5. -/
def head5 (kind : TapKind) (dir : Direction) (good : Bool) : TapEntry :=
  { kind := kind, cls := 1, good := good, dir := dir, peer := 5, tag := 0x1A04 }

/-- 64 outstanding exchanges. -/
def fullOet : List OetEntry := (List.range 64).map fun i => open5 (BitVec.ofNat 16 i) 0

/-- 48 pending entries. -/
def fullList : List Accusation := (List.range 48).map fun i => tagged 17 5 (BitVec.ofNat 16 i) 11

theorem witness_StepRunsTheFrontCommand : State.reset.pending = [] := rfl

/-- A station with a run partway: one lookup and the count are still to be carried out. -/
def partway : State := { station .running with due := { Due.none with run := [.lookup 5 .miss 1, .count 5] } }

theorem witness_BegunRequestsAreFinishedFirst :
    let expiring := withTracker (station .running) [] [open5 0 3, open5 1 4] []
    (∃ e ∈ expiring.trk.oet, 4 ≤ e.age) ∧ expiring.ctl.config.isSome = true ∧ expiring.due.run = [] ∧
    (∀ step ∈ [2, 5], (withDue (station .running) step 1).due.evidence = step ∧ (withDue (station .running) step 1).due.receiver ≤ 1) ∧
    (∀ step ∈ [2, 4], (withDue (station .running) 1 step).due.receiver = step ∧ (withDue (station .running) 1 step).due.evidence ≤ 1) ∧
    (∀ e ∈ (withDue (station .running) 5 4).trk.oet, e.age < 4) ∧ partway.due.run = .lookup 5 .miss 1 :: [.count 5] ∧
    evidencePart .pendingEntryDue = true ∧ receiverPart (.lapse 24) = true ∧ Quiet (station .running) ∧
    partway.ctl.config.isSome = true ∧ ¬ Quiet partway ∧ (station .running).ctl.config.isSome = true ∧ settlesFirst .takeTapRecord = true ∧ (station .running).ctl.config = some cfg := by
  decide +kernel

/-- Work still due at the next tick is taken first: the tick of class 1 ages its entry to 4, whose expiry is a MISS; the boundary follows
(R14, R15, R150; Log 4). -/
theorem test_catchUp :
    let s := { withTracker (station .quarantined) [] [open5 1 3] [] with due := { Due.none with classTicks := [1], boundary := true } }
    let t := after .msTick s
    (t.trk.oet, t.eng.accusations.map (fun e => (e.accused, e.stamp)), t.ctl.epoch - s.ctl.epoch) = ([], [(5, s.ctl.epoch)], 1) := by
  decide +kernel

/-- After a PROBATION_END the next command finds the rest of step 5 carried out (R66, Log 5). -/
theorem test_finishAfterAnEvent :
    let two := fun x => { scored 100 .watched with probation := x }
    let s := ((withDue (station .running) 1 0).setRecord 5 (two 1)).setRecord 24 (two 2)
    let t := after .busIdle (after (.probationEnd 5) s)
    (((after (.probationEnd 5) s).record 24).probation, (t.record 5).probation, (t.record 24).probation, t.due.evidence) = (2, 0, 1, 0) := by
  decide +kernel

theorem witness_ResetsLeaveTheTables :
    ({ station .running with lnk := { Link.reset with restartOpen := true } } : State).lnk.restartOpen = true ∧
    (station .running).lnk.restartOpen = false := by decide +kernel

theorem witness_LeaveResetSamplesTheStraps :
    Tables held ∧ held.ctl.inReset = true ∧ (station .running).ctl.inReset = false ∧ Tables (station .running) ∧
    ((0 : BitVec 2).toNat = 0 ∧ (1 : BitVec 2).toNat = 1 ∧ (2 : BitVec 2).toNat = 2 ∧ (3 : BitVec 2).toNat = 3) ∧
    (∀ slot ∈ ([1, 24] : List (BitVec 5)), 1 ≤ slot.toNat ∧ slot.toNat ≤ 24) ∧
    (∀ slot ∈ ([0, 25, 31] : List (BitVec 5)), slot.toNat = 0 ∨ 25 ≤ slot.toNat) := by decide +kernel

theorem witness_TapFrameIsExamined :
    Quiet held ∧ held.ctl.inReset = true ∧ (station .quarantined).ctl.inReset = false ∧
    Quiet (station .running) ∧ (station .running).ctl.inReset = false ∧ (station .running).ownSlot = 9 ∧ Quiet (station .quarantined) ∧
    Quiet (station .enrolling) ∧ (station .enrolling).ctl.station ≠ .running ∧ (station .enrolling).ctl.station ≠ .quarantined ∧
    (∀ kind ∈ [0, 1, 2, 3], ∀ sd ∈ [(9, 1), (9, 24), (1, 9), (24, 9), (9, 9), (1, 24), (9, 0), (9, 25), (0, 9), (31, 9)],
      let f := frame kind sd.1 sd.2
      f.getD 0 0 ^^^ f.getD 1 0 ^^^ f.getD 2 0 ^^^ f.getD 3 0 ^^^ f.getD 4 0 = f.getD 5 0 ∧ (f.getD 0 0).toNat / 64 = kind ∧
      (f.getD 1 0).toNat / 8 = sd.1 ∧ (f.getD 2 0).toNat / 8 = sd.2) ∧
    (1 : Byte) ^^^ 0 ^^^ 0 ^^^ 0 ^^^ 0 ≠ 0 ∧ ((frame 0 9 5).take 5).length < 6 := by decide +kernel

theorem witness_RequestIsTracked :
    let s := station .running
    let r := head5 .request .outbound true
    let tracked := fun (u : State) => (∀ e ∈ u.trk.oet, ¬ (e.dir = r.dir ∧ e.peer = r.peer ∧ e.tag = r.tag)) ∧
      tagEligible cfg u.trk.level r.tag = true ∧ (u.entry r.peer).presence ≠ .unseen ∧
      cfg.watch.getLsbD ((roleCode u.ctl.role).toNat * 4 + (roleCode (u.entry r.peer).role).toNat) = true
    Quiet s ∧ s.ctl.config = some cfg ∧ s.trk.tapFifo = [] ∧ r.good = true ∧ cfg.timeouts.getD r.cls 0 ≠ 0 ∧ r.kind = .request ∧
    Quiet (withTracker s [r] (fullOet.take 63) []) ∧ tracked (withTracker s [r] (fullOet.take 63) []) ∧ (fullOet.take 63).length < 64 ∧
    Quiet (withTracker s [r] fullOet []) ∧ tracked (withTracker s [r] fullOet []) ∧ 64 ≤ fullOet.length ∧
    Quiet (withTracker s [head5 .request .inbound false] [] []) ∧ ¬ (head5 .request .inbound false).good = true := by decide +kernel

theorem witness_ResponsesAndCancelsAreMatched :
    let s := station .running
    let one := withTracker s [head5 .response .inbound true] [open5 0 0, open5 0x1A04 3, open5 1 0] []
    let bad := withTracker s [head5 .response .inbound false] [open5 0x1A04 3] []
    let cancel := withTracker s [head5 .cancel .outbound true] [open5 0x1A04 3] []
    Quiet one ∧ one.ctl.config = some cfg ∧ one.trk.oet = [open5 0 0] ++ open5 0x1A04 3 :: [open5 1 0] ∧
    (∀ f ∈ [open5 0 0], ¬ (f.dir ≠ .inbound ∧ f.peer = 5 ∧ f.tag = 0x1A04)) ∧ (open5 0x1A04 3).dir ≠ .inbound ∧
    Quiet bad ∧ bad.trk.oet = [] ++ open5 0x1A04 3 :: [] ∧ (head5 .response .inbound false).good = false ∧
    Quiet cancel ∧ (head5 .cancel .outbound true).kind = .cancel ∧ (open5 0x1A04 3).dir = .outbound ∧
    (∀ e ∈ ([] : List OetEntry), ¬ (e.dir ≠ .inbound ∧ e.peer = 5 ∧ e.tag = 0x1A04)) := by decide +kernel

theorem witness_SampleEligibility :
    (levelMask (configOf cfgBytes).baseMask 1).getLsbD 0 = true ∧ (configOf cfgBytes).baseMask.getLsbD 0 = false ∧
    tagEligible (configOf cfgBytes) 1 0x0010 = true ∧ tagEligible cfg 4 0x0010 = true ∧
    ((List.range 16).filter fun j => !(0x7FFF : Half).getLsbD j).length < 2 := by decide +kernel

theorem witness_ObservationIsHandedOn :
    (station .quarantined).ctl.station = .quarantined ∧ (station .enrolling).ctl.station ≠ .running ∧
    (station .enrolling).ctl.station ≠ .quarantined ∧ (station .running).ctl.station = .running ∧
    (station .running).eng.accusations.length < 48 ∧ ¬ ((station .running).setAccusations fullList).eng.accusations.length < 48 ∧
    (∃ e ∈ ((station .running).setAccusations ((fullList.take 47) ++ [tagged 9 5 1 12])).eng.accusations, isTagged 9 5 1 e = true) := by
  decide +kernel

/-- Three ACCUSE notes in accuse slots and nine in shared ones, none against slot 5. -/
def fullAccuse : List TxNote :=
  List.replicate 3 (noteOf (.accuse 1 .miss [1] 0) .accuse .underWay) ++ List.replicate 9 (noteOf (.accuse 1 .miss [1] 0) .shared .underWay)

theorem witness_AccusationIsAnnounced :
    (station .enrolling).ctl.station ≠ .running ∧ (station .running).ctl.station = .running ∧
    (∀ m ∈ ([] : List TxNote), ¬ (m.state = .waiting ∧ ∃ ts n, m.content = .accuse 5 .miss ts n)) ∧
    (1 : Half) ∈ [(1 : Half)] ∧ (2 : Half) ∉ [(1 : Half)] ∧ [(1 : Half), 2, 3, 4, 5].length < 6 ∧ 6 ≤ [(1 : Half), 2, 3, 4, 5, 6].length ∧
    ((station .running).setBuffer [noteOf (.accuse 5 .miss [1] 254) .accuse .waiting]).xmt.buffer =
      [] ++ noteOf (.accuse 5 .miss [1] 254) .accuse .waiting :: [] ∧
    (noteOf (.accuse 5 .miss [1] 254) .accuse .waiting).state = .waiting ∧
    (∀ m ∈ fullAccuse, ¬ (m.state = .waiting ∧ ∃ ts n, m.content = .accuse 5 .miss ts n)) ∧
    (fullAccuse.take 2 |>.filter fun n => decide (n.pool = .accuse)).length < 3 ∧
    3 ≤ (fullAccuse.filter fun n => decide (n.pool = .accuse)).length ∧
    ((fullAccuse.take 11).filter fun n => decide (n.pool = .shared)).length < 9 ∧
    9 ≤ (fullAccuse.filter fun n => decide (n.pool = .shared)).length := by
  refine ⟨by decide, rfl, by simp, by decide, by decide, by decide, by decide, rfl, rfl, ?_, by decide, by decide, by decide, by decide⟩
  intro m hm ⟨hs, _⟩
  have : ∀ m ∈ fullAccuse, m.state ≠ .waiting := by decide
  exact this m hm hs

theorem witness_PendingEntriesAreAdded :
    (withDue (station .running) 1 0).due.evidence = 1 ∧
    ¬ (1 ≤ 0 ∧ 0 ≤ 24 ∧ 1 ≤ 25 ∧ 25 ≤ 24) ∧
    (∃ e ∈ fullList, e.accuser = 17 ∧ e.accused = 5 ∧ e.load = .tagged 47) ∧
    (∀ e ∈ fullList, ¬ (e.accuser = 17 ∧ e.accused = 5 ∧ e.load = .tagged 48)) ∧ fullList.length = 48 ∧ (fullList.take 47).length < 48 ∧
    fullList = tagged 17 5 0 11 :: fullList.tail ∧
    ({ tagged 1 24 0 11 with load := .untagged 255 } : Accusation).load = .untagged 255 := by decide +kernel

theorem witness_ItemOfEvidenceIsScored :
    Tables (station .running) ∧ ConfigSound cfg ∧ (1 ≤ 1 ∧ 1 ≤ 24 ∧ 1 ≤ 24 ∧ 24 ≤ 24) ∧ ¬ (1 ≤ 0 ∧ 0 ≤ 24 ∧ 1 ≤ 25 ∧ 25 ≤ 24) ∧
    (1 ≤ 255 ∧ 255 ≤ 255) ∧ (1 ≠ 5 ∧ zoneKey 24 1 = zoneKey 24 5 ∧ 3 ≤ 255 ∧ 255 % 2 = 1) ∧
    0 < (((station .running).setRecord 5 { BoardRecord.reset with probation := 1 }).record 5).probation := by decide +kernel

/-- Eight witnesses, slots 1 to 8. -/
def eight : List Witness := (List.range' 1 8).map fun x => ⟨x, zoneKey 24 x, 11⟩

theorem witness_WitnessIsRecorded :
    eight.Pairwise (fun v u => v.slot < u.slot) ∧ eight.length = 8 ∧ (∃ v ∈ eight, v.slot = 8) ∧ (∀ v ∈ eight, v.slot ≠ 9) ∧
    (eight.take 7).length < 8 ∧ (eight.take 7).Pairwise (fun v u => v.slot < u.slot) := by decide +kernel

theorem witness_ZoneKeysAndCorrelation :
    cfg.zoneMask ≠ 0 ∧ isReset .msTick = false ∧ (station .running).ctl.config = some cfg ∧
    (station .running).ctl.station ≠ .unconfigured ∧ ∃ t, exec .msTick (station .running) = .next t := by
  refine ⟨by decide +kernel, rfl, rfl, by decide, _, rfl⟩

theorem witness_IndependentZonesAreCounted :
    let ws := (List.range' 1 8).map fun x => ({ slot := x, key := x, epoch := 0 } : Witness)
    ({ cfg with zoneMask := 0 } : ConfigRecord).zoneMask = 0 ∧ ws.Pairwise (fun v u => v.slot < u.slot) ∧ (∀ w ∈ ws, w.key = w.slot) := by
  decide +kernel

theorem witness_StandingIsEvaluated :
    let quorate := fun r : BoardRecord => cfg.tCondemn ≤ r.score ∧ cfg.quorum ≤ independentZones cfg 5 r.witnesses
    let two := { scored 512 .suspect with witnesses := [⟨9, 8, 12⟩, ⟨17, 16, 12⟩] }
    Tables ((station .running).setRecord 5 two) ∧ ((station .running).setRecord 5 two).record 5 = two ∧ quorate two ∧
    two.standing ≠ .condemned ∧ (scored 512 .condemned).standing = .condemned ∧
    (∀ s ∈ [0, 31, 32, 95, 96, 255, 256, 511, 4095], ¬ quorate (scored s .clear)) ∧
    cfg.tClear = 32 ∧ cfg.tWatch = 96 ∧ cfg.tSuspect = 256 ∧ cfg.tCondemn = 512 := by decide +kernel

theorem witness_QuarantineTriggerIsTaken :
    (station .running).ctl.station = .running ∧ (station .enrolling).ctl.station = .enrolling ∧
    (station .quarantined).ctl.station = .quarantined ∧ (station (.mute .clockFault)).ctl.station = .mute .clockFault ∧
    cfg.fence = .enforce ∧ (station (.mute .clockFault)).ctl.latch = false ∧ (configOf (cfgBytes.set 31 0)).fence = .report ∧
    ({ Controller.reset 9 true with station := .mute .clockFault } : Controller).latch = true := by decide +kernel

/-- Three peers in zones 8, 16 and 0 that list the own slot 9 (Table 12-4, for own slot 9). -/
def listed : State :=
  let listing := fun (serial : Word) => { peer serial .front .present with condemnsMe := true }
  (((station .running).setEntry 12 (listing 12)).setEntry 20 (listing 20)).setEntry 2 (listing 2)

theorem witness_PeerQuorumIsEvaluated :
    let counts := fun (s : State) (x : Nat) => 1 ≤ x ∧ x ≤ 24 ∧ x ≠ s.ownSlot ∧ (s.entry x).condemnsMe = true ∧
      (s.entry x).presence = .present ∧ (s.entry x).matched = true ∧ (s.entry x).quarantined = false ∧
      (s.record x).standing ≠ .condemned
    Tables listed ∧ listed.ownSlot = 9 ∧
    (∀ key, key ∈ ({0, 16} : Finset Nat) ↔ key ≠ zoneKey cfg.zoneMask 9 ∧ ∃ x, counts listed x ∧ zoneKey cfg.zoneMask x = key) ∧
    cfg.quorum ≤ ({0, 16} : Finset Nat).card ∧ (listed.record 9).standing ≠ .condemned ∧
    (∀ key, key ∈ (∅ : Finset Nat) ↔
      key ≠ zoneKey cfg.zoneMask 9 ∧ ∃ x, counts (station .running) x ∧ zoneKey cfg.zoneMask x = key) ∧
    (∅ : Finset Nat).card < cfg.quorum ∧ ((listed.setRecord 9 (scored 512 .condemned)).record 9).standing = .condemned := by
  intro counts
  have range : ∀ s x, counts s x → x ∈ List.range' 1 24 := by
    intro s x h
    simp only [List.mem_range', counts] at h ⊢
    exact ⟨x - 1, by omega, by omega⟩
  have keys : ∀ x ∈ List.range' 1 24, counts listed x → zoneKey cfg.zoneMask x = 8 ∨ zoneKey cfg.zoneMask x = 0 ∨
      zoneKey cfg.zoneMask x = 16 := by decide +kernel
  have none' : ∀ x ∈ List.range' 1 24, ¬ counts (station .running) x := by decide +kernel
  have own : zoneKey cfg.zoneMask 9 = 8 := by decide +kernel
  refine ⟨by decide +kernel, by decide +kernel, ?_, by decide +kernel, by decide +kernel, ?_, by decide +kernel, by decide +kernel⟩
  · intro key
    rw [own]
    constructor
    · intro h
      have h' : key = 0 ∨ key = 16 := by simpa using h
      rcases h' with rfl | rfl
      · exact ⟨by decide, 2, by decide +kernel, by decide +kernel⟩
      · exact ⟨by decide, 20, by decide +kernel, by decide +kernel⟩
    · rintro ⟨h, x, hx, rfl⟩
      have := keys x (range _ x hx) hx
      simp only [Finset.mem_insert, Finset.mem_singleton]
      omega
  · intro key
    constructor
    · intro h
      simp at h
    · rintro ⟨_, x, hx, _⟩
      exact absurd hx (none' x (range _ x hx))

theorem witness_FlagsAndNoticesArePosted :
    let n : Notice := { body := .presence 4 .unseen .present, epoch := 0, overrun := false }
    (List.replicate 31 n).length < 32 ∧ List.replicate 32 n = List.replicate 31 n ++ [n] ∧ 32 ≤ (List.replicate 32 n).length := by
  decide +kernel

theorem witness_TicksAndBoundariesFall :
    let s := { station .running with due := { Due.none with classTicks := [1], boundary := true } }
    unconfigured.ctl.config = none ∧ (station .running).ctl.config = some cfg ∧ Quiet (station .running) ∧
    (station .running).due = Due.none ∧ Quiet s ∧ (1 : Fin 4) ∈ s.due.classTicks ∧ (0 : Fin 4) ∉ s.due.classTicks ∧
    s.due.boundary = true ∧ (station .running).due.boundary = false := by decide +kernel

theorem witness_OldestExpiringEntryIsRemoved :
    let s := withTracker (station .running) [] [open5 0 3, open5 1 4, open5 2 4] []
    s.ctl.config = some cfg ∧ s.due.run = [] ∧ (∀ e ∈ (station .running).trk.oet, e.age < 4) ∧
    s.trk.oet = [open5 0 3] ++ open5 1 4 :: [open5 2 4] ∧ (∀ f ∈ [open5 0 3], f.age < 4) ∧ 4 ≤ (open5 1 4).age ∧ s.trk.blind = 0 ∧
    0 < ({ s.trk with blind := 2 } : Tracker).blind := by decide +kernel

/-- A station in ENROLLING that holds a quarantine trigger over, its own record CONDEMNED, the period at 3 and its step due. -/
def heldOver : State :=
  let s := (station .enrolling).setRecord 9 (scored 600 .condemned)
  { s with ctl := { s.ctl with held := some { kind := .evidence, zones := 2 } }, due := { s.due with enrolment := true } }

theorem witness_ClockFaultMutesTheStation :
    Quiet (station .running) ∧ (station .running).ctl.config = some cfg ∧ (station .running).ctl.monitorArmed = true ∧
    (station .running).ctl.tickSource = .clkin ∧ (station .running).ctl.station = .running ∧
    (station .quarantined).ctl.station = .quarantined ∧ (station .enrolling).ctl.station = .enrolling ∧
    (station .enrolling).ctl.held = none ∧ Quiet heldOver ∧ heldOver.ctl.held = some { kind := .evidence, zones := 2 } ∧
    heldOver.ownSlot = 9 ∧ (heldOver.record 9).standing = .condemned ∧ heldOver.ctl.monitorArmed = true ∧
    (station (.mute .slotConflict)).ctl.station = .mute .slotConflict ∧
    ({ (station .running).ctl with tickSource := .rc } : Controller).tickSource = .rc := by decide +kernel

theorem witness_EvidenceBoundaryWorkIsDone :
    let s := (withDue (station .running) 1 0).setAccusations [tagged 9 5 1 10, tagged 3 24 2 11]
    s.ctl.config = some cfg ∧ (∀ step ∈ [0, 1, 2, 3, 4, 5], Readable (withDue s 1 0) ∧ s.due.run = [] ∧
      (withDue s step 1).due.evidence = step ∧ (withDue s step 1).due.receiver ≤ 1) ∧ Tables s ∧
    (∀ e ∈ s.eng.accusations, isSlot e.accuser = true ∧ isSlot e.accused = true) ∧
    ((after .evidenceBoundaryWork s).record 9).standing ≠ .condemned ∧ s.lnk.notices.length + 24 + 1 ≤ 32 ∧
    (let own := s.setRecord 9 { scored 700 .suspect with witnesses := [⟨1, 0, 12⟩, ⟨17, 16, 12⟩] }
     isSlot own.ownSlot = true ∧ (own.record 9).standing ≠ .condemned ∧
       ((after .evidenceBoundaryWork own).record 9).standing = .condemned) := by decide +kernel

theorem witness_EvidenceBoundaryEventsAreTaken :
    let s := fun step => ((withDue (station .running) step 0).setRecord 24
      { scored 100 .watched with probation := 1, witnesses := [⟨1, 0, 8⟩, ⟨5, 0, 9⟩] }).setAccusations [tagged 3 24 2 11, tagged 9 1 1 10]
    (∀ step ∈ [0, 1, 2, 3, 4, 5, 6], (s step).ctl.config = some cfg ∧ (∀ e ∈ (s step).trk.oet, e.age < 4) ∧ (s step).due.receiver ≤ 1 ∧
      (s step).due.run = [] ∧ Tables (s step) ∧ (s step).due.evidence = step) ∧
    (∃ v ∈ ((s 2).record 24).witnesses, v.slot = 1 ∧ cfg.expiry ≤ ((s 2).ctl.epoch - v.epoch).toNat) ∧
    ¬ (∃ v ∈ ((s 2).record 24).witnesses, v.slot = 5 ∧ cfg.expiry ≤ ((s 2).ctl.epoch - v.epoch).toNat) ∧
    (s 3).eng.accusations = [tagged 3 24 2 11] ++ tagged 9 1 1 10 :: [] ∧ (∀ f ∈ [tagged 3 24 2 11], f.stamp + 2 ≠ (s 3).ctl.epoch) ∧
    (tagged 9 1 1 10).stamp + 2 = (s 3).ctl.epoch ∧ ((s 5).record 24).probation = 1 ∧ ((s 5).record 1).probation ≠ 1 ∧
    (∀ e ∈ (station .running).eng.accusations, e.stamp + 2 ≠ (station .running).ctl.epoch) := by decide +kernel

theorem witness_ReceiverBoundaryWorkIsDone :
    let s := (withDue (station .running) 0 1).setEntry 5 { peer 0x00050005 .auth .present with lapse := 2, mute := 2, accepted := 256 }
    s.ctl.config = some cfg ∧ (∀ step ∈ [0, 1, 2, 3, 4], Readable (withDue s 0 1) ∧ s.due.run = [] ∧
      (withDue s 1 step).due.receiver = step ∧ (withDue s 1 step).due.evidence ≤ 1) ∧ Tables s ∧ cfg.lapse ≤ (s.entry 5).lapse + 1 ∧
    s.lnk.notices.length + 1 ≤ 32 := by decide +kernel

theorem witness_ReceiverBoundaryEventsAreTaken :
    let s := fun step => (withDue (station .running) 0 step).setEntry 24
      { peer 0x00180018 .posting .present with lapse := 2, mute := 1 }
    (∀ step ∈ [0, 1, 2, 3, 4], (s step).ctl.config = some cfg ∧ (∀ e ∈ (s step).trk.oet, e.age < 4) ∧ (s step).due.evidence ≤ 1 ∧
      (s step).due.run = [] ∧ Tables (s step) ∧ (s step).due.receiver = step) ∧
    ((s 2).entry 24).mute = 1 ∧ ((s 2).entry 1).mute ≠ 1 ∧
    (24 ≠ (s 3).ownSlot ∧ ((s 3).entry 24).presence = .present ∧ cfg.lapse ≤ ((s 3).entry 24).lapse + 1) ∧
    ((s 3).entry 1).presence ≠ .present := by decide +kernel

theorem witness_TrackerAndTransmitterBoundaryWork :
    let s := { station .running with due := { Due.none with blind := true, transmitter := true } }
    let holding := s.setBuffer [noteOf (.beacon none) .beacon .waiting]
    Quiet s ∧ s.ctl.config = some cfg ∧ s.due.blind = true ∧ s.due.transmitter = true ∧ s.ctl.station = .running ∧
    (∀ n ∈ s.xmt.buffer, n.pool ≠ .beacon) ∧ Quiet holding ∧ ¬ (∀ n ∈ holding.xmt.buffer, n.pool ≠ .beacon) ∧
    (station .running).due.blind = false ∧ (station .running).due.transmitter = false := by decide +kernel

theorem witness_EnrolmentStepAsksForAnEnrol :
    let s := { station .enrolling with
      ctl := { (station .enrolling).ctl with enrolCount := 2 }, due := { Due.none with enrolment := true } }
    let holding := s.setBuffer [noteOf (.enrol 0x00090009 .front 0) .beacon .waiting]
    Quiet s ∧ s.ctl.config = some cfg ∧ s.ctl.digest = some (digestOf cfg) ∧ s.due.enrolment = true ∧ s.ctl.station = .enrolling ∧
    s.ctl.enrolCount < 3 ∧ (∀ n ∈ s.xmt.buffer, n.pool ≠ .beacon) ∧ ¬ (∀ n ∈ holding.xmt.buffer, n.pool ≠ .beacon) ∧
    (station .running).ctl.station ≠ .enrolling ∧ (station .running).due.enrolment = false := by decide +kernel

theorem witness_EndOfEnrolmentDecides :
    let peers := fun (s : State) (matched : Bool) => ((List.range' 1 24).filter fun x =>
      decide (x ≠ s.ownSlot ∧ (s.entry x).presence = .present ∧ (s.entry x).matched = matched)).length
    let s := { station .enrolling with due := { Due.none with enrolment := true } }
    let odd := fun u : State => (u.setEntry 5 { u.entry 5 with matched := false }).setEntry 17 { u.entry 17 with matched := false }
    Quiet s ∧ s.ctl.config = some cfg ∧ s.due.enrolment = true ∧ s.ctl.station = .enrolling ∧ s.ctl.enrolCount = 3 ∧ Tables s ∧
    s.ownSlot = 9 ∧ Quiet heldOver ∧ heldOver.due.enrolment = true ∧ heldOver.ctl.enrolCount = 3 ∧
    peers (odd s) true < peers (odd s) false ∧ (odd s).ctl.held = none ∧ peers (odd heldOver) true < peers (odd heldOver) false ∧
    ((odd heldOver).record 9).standing = .condemned ∧ peers s false ≤ peers s true ∧ peers heldOver false ≤ peers heldOver true ∧
    (∀ n ∈ s.xmt.buffer, n.content.kind = .enrol) ∧ (s.record 9).standing ≠ .condemned ∧ s.ctl.latch = false ∧
    ((s.setRecord 9 (scored 600 .condemned)).record 9).standing = .condemned := by decide +kernel

theorem witness_AttemptBegins :
    let s := (station .running).setBuffer [noteOf (.accuse 5 .miss [1] 0) .accuse .waiting, noteOf (.rebut 5 1 .miss) .rebut .waiting,
      noteOf (.rebut 17 1 .miss) .rebut .waiting]
    let retry := (station .running).setBuffer [noteOf (.accuse 5 .miss [1] 0) .accuse .retryHead]
    let busy := (station .running).setBuffer [noteOf (.accuse 5 .miss [1] 0) .accuse .underWay]
    Quiet s ∧ (s.ctl.inReset = false ∧ 12 ≤ s.rcv.idleCount ∧ ∀ n ∈ s.xmt.buffer, n.state ≠ .underWay) ∧
    (∀ n ∈ s.xmt.buffer, n.state ≠ .retryHead) ∧ 0 < s.xmt.budget ∧
    s.xmt.buffer = [noteOf (.accuse 5 .miss [1] 0) .accuse .waiting] ++ noteOf (.rebut 5 1 .miss) .rebut .waiting ::
      [noteOf (.rebut 17 1 .miss) .rebut .waiting] ∧
    Quiet retry ∧ retry.xmt.buffer = [] ++ noteOf (.accuse 5 .miss [1] 0) .accuse .retryHead :: [] ∧
    (noteOf (.accuse 5 .miss [1] 0) .accuse .retryHead).state = .retryHead ∧ Quiet busy ∧
    ¬ (∀ n ∈ busy.xmt.buffer, n.state ≠ .underWay) ∧ (station .running).xmt.buffer = [] ∧
    busy.xmt.buffer = [] ++ noteOf (.accuse 5 .miss [1] 0) .accuse .underWay :: [] ∧
    (noteOf (.accuse 5 .miss [1] 0) .accuse .underWay).seq = some 7 := by decide +kernel

theorem witness_AttemptEnds :
    let n := noteOf (.rebut 5 1 .miss) .rebut .underWay
    let s := (station .running).setBuffer [n]
    Quiet (station .running) ∧ (station .running).ctl.inReset = false ∧ (station .running).ctl.station ≠ .unconfigured ∧
    ¬ (∃ n ∈ (station .running).xmt.buffer, n.state = .underWay) ∧ Quiet s ∧ (∃ n ∈ s.xmt.buffer, n.state = .underWay) ∧
    s.xmt.buffer = [] ++ n :: [] ∧ n.state = .underWay ∧ n.noRetry = false ∧ n.attempts < 3 ∧
    ({ n with noRetry := true } : TxNote).noRetry = true ∧ 3 ≤ ({ n with attempts := 3 } : TxNote).attempts ∧
    (0x0B : Byte).toNat < (0x53 : Byte).toNat ∧ ¬ (0x53 : Byte).toNat < (0x53 : Byte).toNat ∧
    held.ctl.inReset = true ∧ unconfigured.ctl.station = .unconfigured := by decide +kernel

/-- The BEACON of slot 5 in the tests. -/
def beacon5 : BeaconNote :=
  { sender := 5, seq := 7, serial := 0x00050005, role := .auth, digest := digestOf cfg, quarantined := true, saturated := true,
    condemned := [9, 24] }

theorem witness_NotesReadAsTheyAreWritten :
    (Note.enrol { sender := 31, seq := 255, serial := 1, role := .gateway, digest := 0 }).wellFormed = true ∧
    (Note.beacon { beacon5 with condemned := List.replicate 24 24 }).wellFormed = true ∧ (Note.beacon beacon5).wellFormed = true ∧
    (Note.accuse { sender := 5, serialTag := 5, seq := 1, accused := 9, kind := .corrupt, tags := [1, 2, 3, 4, 5, 6],
                   surplus := 255 }).wellFormed = true ∧
    (Note.rebut { sender := 5, serialTag := 5, seq := 1, accuser := 9, tag := 1, kind := .miss }).wellFormed = true ∧
    0 < (noteBytes (.beacon beacon5)).length := by decide +kernel

theorem witness_NoteCheckIsTheCrc : judge (noteBytes (.beacon beacon5)) = some (.beacon beacon5) := by decide +kernel

theorem witness_GarbledNoteIsDiscarded :
    Quiet (station .running) ∧ takesNotes (station .running) ∧ judge [0x0B, 0x02, 0x00] = none ∧ ¬ (14 ≤ [0x0B, 0x02, 0x00].length) ∧
    judge [0x0B, 0x05] = none ∧ (2 ≤ [0x0B, 0x05].length ∧ ¬ (2 ≤ [0x0B].length)) ∧ Quiet unconfigured ∧
    ¬ takesNotes unconfigured ∧ judge (noteBytes (.beacon beacon5)) = some (.beacon beacon5) ∧
    (Note.beacon beacon5).wellFormed = true ∧
    EnrolNote.wellFormed { sender := 5, seq := 7, serial := 0, role := .auth, digest := 0 } = false ∧
    BeaconNote.wellFormed { beacon5 with serial := 0 } = false ∧
    AccuseNote.wellFormed { sender := 5, serialTag := 5, seq := 1, accused := 9, kind := .miss, tags := [], surplus := 0 } = false ∧
    ((0 : BitVec 5).toNat = 0 ∧ 24 < (25 : BitVec 5).toNat) ∧ (station .running).ctl.config = some cfg ∧ beacon5.wellFormed = true ∧
    takesNotes { unconfigured with
      ctl := { unconfigured.ctl with station := .mute .badStrap }, rcv := { unconfigured.rcv with rxReady := true } } ∧
    unconfigured.ctl.config = none := by decide +kernel

/-- The identity that an ENROL of a slot, serial and sequence number brings. -/
def enrolOf (slot : BitVec 5) (seq : Byte) (serial : Word) : Instr :=
  .receiveEnrol { sender := slot, seq := seq, serial := serial, role := .auth, digest := digestOf cfg }

theorem witness_PeerIsEnrolledOrRefreshed :
    let s := (station .running).setEntry 5 { peer 0x00050005 .auth .present with lastSeq := some 6, accepted := 10 }
    (∀ i ∈ [enrolOf 1 7 3, enrolOf 24 7 3, enrolOf 5 7 0x00050005, enrolOf 5 6 0x00050005, .receiveBeacon beacon5],
      ∃ d ∈ identityOf i, i.wellFormed = true ∧ 1 ≤ d.slot ∧ d.slot ≤ 24 ∧ d.slot ≠ s.ownSlot) ∧
    Quiet s ∧ takesNotes s ∧ s.ctl.config = some cfg ∧ Tables s ∧ (s.entry 1).serial = 0 ∧
    (s.entry 5).serial = 0x00050005 ∧ (s.entry 5).lastSeq = some 6 ∧ (s.entry 5).accepted = cfg.babble ∧
    ((station .running).entry 5).lastSeq ≠ some 7 := by decide +kernel

theorem witness_LapsedSlotIsReplaced :
    let s := station .running
    (∃ d ∈ identityOf (enrolOf 24 7 3), d.slot = 24 ∧ d.serial = 3) ∧ (enrolOf 24 7 3).wellFormed = true ∧ Quiet s ∧ takesNotes s ∧
    s.ctl.config = some cfg ∧ cfg.babble ≠ 0 ∧ Tables s ∧ 24 ≠ s.ownSlot ∧ (s.entry 24).serial ≠ 0 ∧ (s.entry 24).serial ≠ 3 ∧
    (s.entry 24).presence = .lapsed := by decide +kernel

theorem witness_PeerSlotConflictIsSettled :
    let s := station .running
    let seen := s.setEntry 5 { s.entry 5 with conflictSeen := true }
    (∃ d ∈ identityOf (enrolOf 5 7 0x00050004), d.slot = 5 ∧ d.serial.toNat < (s.entry 5).serial.toNat) ∧
    (∃ d ∈ identityOf (enrolOf 5 7 0x00050006), d.slot = 5 ∧ (s.entry 5).serial.toNat < d.serial.toNat) ∧
    (enrolOf 5 7 0x00050004).wellFormed = true ∧ Quiet s ∧ takesNotes s ∧ s.ctl.config = some cfg ∧ cfg.babble ≠ 0 ∧ Tables s ∧
    5 ≠ s.ownSlot ∧ (s.entry 5).serial ≠ 0 ∧ (s.entry 5).presence = .present ∧ (s.entry 5).conflictSeen = false ∧
    (seen.entry 5).conflictSeen = true ∧ Quiet seen ∧ takesNotes seen := by decide +kernel

theorem witness_OwnSlotConflictIsHandled :
    let s := station .running
    Quiet s ∧ takesNotes s ∧ s.ctl.config = some cfg ∧ Tables s ∧ s.ownSlot = 9 ∧
    (∃ d ∈ identityOf (enrolOf 9 7 0x00090009), d.slot = 9 ∧ d.serial = s.ctl.serial) ∧
    (∃ d ∈ identityOf (enrolOf 9 7 0x00090008), d.serial.toNat < s.ctl.serial.toNat) ∧
    (∃ d ∈ identityOf (enrolOf 9 7 0x0009000A), s.ctl.serial.toNat < d.serial.toNat) ∧ (enrolOf 9 7 0x0009000A).wellFormed = true ∧
    takesNotes (station .quarantined) ∧ takesNotes (station .enrolling) ∧ (station .enrolling).ctl.held = none ∧ Quiet heldOver ∧
    takesNotes heldOver ∧ heldOver.ctl.held = some { kind := .evidence, zones := 2 } ∧ (heldOver.record 9).standing = .condemned ∧
    takesNotes (station (.mute .slotConflict)) ∧
    (AccuseNote.wellFormed { sender := 9, serialTag := 5, seq := 1, accused := 1, kind := .miss, tags := [1], surplus := 0 }) = true := by
  decide +kernel

theorem witness_AccuseIsTaken :
    let s := { station .running with overlaps := [2] }
    let free := fun (b : List TxNote) (p : Pool) => decide ((b.filter fun m => decide (m.pool = p)).length < poolSize p)
    let rebuts := List.replicate 3 (noteOf (.rebut 1 1 .miss) .rebut .waiting)
    let shared := List.replicate 9 (noteOf (.rebut 1 1 .miss) .shared .waiting)
    Quiet s ∧ takesNotes s ∧ s.ctl.config = some cfg ∧ Tables s ∧ 5 ≠ s.ownSlot ∧ ¬ accepts s 5 6 1 ∧ accepts s 5 5 1 ∧ ¬ accepts s 24 0 1 ∧
    AccuseNote.wellFormed { sender := 5, serialTag := 5, seq := 1, accused := 9, kind := .miss, tags := [1, 2, 1, 3, 2, 1],
                            surplus := 255 } = true ∧
    [(1 : Half), 2, 3, 4, 5, 6].Nodup ∧ s.eng.accusations.length + 6 + 1 ≤ 48 ∧
    (∀ f ∈ s.eng.accusations, ¬ (f.accuser = 5 ∧ f.accused = 9)) ∧ lookupAnswer s.trk.answers 5 1 ≠ some true ∧
    lookupAnswer [⟨5, 1, true⟩] 5 1 = some true ∧ free [] .rebut = true ∧ free rebuts .rebut = false ∧ free rebuts .shared = true ∧
    free (rebuts ++ shared) .rebut = false ∧ free (rebuts ++ shared) .shared = false ∧
    takesNotes (withTracker (s.setBuffer (rebuts ++ shared)) [] [] [⟨5, 1, true⟩]) := by decide +kernel

theorem witness_RebutIsTaken :
    let s := (station .running).setAccusations [tagged 9 5 1 11, tagged 24 5 1 11]
    Quiet s ∧ takesNotes s ∧ s.ctl.config = some cfg ∧ Tables s ∧ 5 ≠ s.ownSlot ∧ ¬ accepts s 5 6 1 ∧ accepts s 5 5 1 ∧
    (0 = 0 ∨ 24 < 25) ∧ (1 ≤ 24 ∧ 24 ≤ 24) ∧ (9 : Byte).toNat = s.ownSlot := by decide +kernel

theorem witness_BabbleIsFound :
    let s := (station .running).setEntry 24 { peer 0x00180018 .posting .present with accepted := 10 }
    Tables s ∧ (s.entry 24).accepted = cfg.babble ∧ (s.entry 1).accepted ≠ cfg.babble := by decide +kernel

theorem witness_ConfigureIsTaken :
    let ordered := fun c : ConfigRecord => c.tClear < c.tWatch ∧ c.tWatch < c.tSuspect ∧ c.tSuspect < c.tCondemn
    let high := configOf (cfgBytes.set 8 2)
    let small := configOf (cfgBytes.set 20 9)
    Quiet unconfigured ∧ unconfigured.ctl.inReset = false ∧ unconfigured.lnk.restartOpen = false ∧
    unconfigured.ctl.station = .unconfigured ∧ unconfigured.xmt.buffer = [] ∧ (cfgBytes.take 33).length < 34 ∧ 34 ≤ cfgBytes.length ∧
    ordered cfg ∧ 2 * cfg.budget + 2 ≤ cfg.babble ∧ ¬ ordered high ∧ ordered small ∧ small.babble < 2 * small.budget + 2 ∧
    Quiet (station .running) ∧ (station .running).ctl.station ≠ .unconfigured := by decide +kernel

theorem witness_ConfigurationIsClamped :
    let n := fun i => (cfgBytes.getD i 0).toNat
    cfgBytes.length = 34 ∧ (n 0 ≤ 4 ∧ 2 ≤ n 1 ∧ n 1 ≤ 6 ∧ n 2 = 2 ∧ n 3 ≤ 31 ∧ n 16 ≤ 15 ∧ n 17 ≤ 15 ∧ n 19 ≤ 32 ∧ 4 ≤ n 20) ∧
    cfg.sampleMatch.toNat = 0 ∧ shelfBytes cfg = cfgBytes.take 31 ∧ Quiet unconfigured ∧
    exec (.configure (cfgBytes.take 33)) unconfigured = .next unconfigured.abort := by
  refine ⟨rfl, by decide +kernel, by decide +kernel, by decide +kernel, by decide +kernel, rfl⟩

theorem witness_StatusIsRead :
    Readable partway ∧ ¬ Quiet partway ∧ partway.lnk.shown = none ∧ (after .readStatus (station .running)).due.run = [] ∧ Readable (station .running) ∧ (station .running).ctl.inReset = false ∧ (station .running).lnk.restartOpen = false ∧
    (after .readStatus (station .running)).lnk.shown = some 0 ∧ (station .running).lnk.shown = none := by decide +kernel

theorem witness_ViewIsRead :
    Readable partway ∧ partway.ctl.inReset = false ∧ (∀ step ∈ [0, 1, 2, 3, 4], let s := withDue (station .running) step 1
      (∀ e ∈ s.trk.oet, e.age < 4) ∧ s.due.receiver ≤ 1 ∧ s.ctl.config = some cfg ∧ s.due.evidence = step ∧ s.ctl.inReset = false ∧
        s.lnk.restartOpen = false) ∧
    (∀ x ∈ ([1, 24] : List Byte), 1 ≤ x.toNat ∧ x.toNat ≤ 24) ∧ (∀ x ∈ ([0, 25, 255] : List Byte), x.toNat = 0 ∨ 24 < x.toNat) := by
  decide +kernel

theorem witness_NoticesAreTaken :
    let s := (station .running).post (.xmitTrouble .rebut 7)
    let t := after .takeNotice s
    Quiet (station .running) ∧ (station .running).lnk.notices = [] ∧ Quiet s ∧ s.ctl.inReset = false ∧ s.lnk.restartOpen = false ∧
    s.lnk.notices = { body := .xmitTrouble .rebut 7, epoch := 12, overrun := false } :: [] ∧ s.lnk.noticeOpen = false ∧
    Quiet t ∧ t.lnk.noticeOpen = true ∧ t.lnk.notices.length = 1 := by decide +kernel

theorem witness_ReleaseIsTaken :
    let s := (station .running).setRecord 24 (scored 600 .condemned)
    let own := (station .quarantined).setRecord 9 (scored 600 .condemned)
    let muted := { station (.mute .clockFault) with ctl := { (station (.mute .clockFault)).ctl with latch := true } }
    Quiet s ∧ s.ctl.inReset = false ∧ s.lnk.restartOpen = false ∧ Tables s ∧ (∀ x ∈ ([0, 25] : List Byte), x.toNat = 0 ∨ 24 < x.toNat) ∧
    s.ctl.config = some cfg ∧ 24 ≠ s.ownSlot ∧ (s.record 24).standing = .condemned ∧ (s.record 1).standing ≠ .condemned ∧
    unconfigured.ctl.config = none ∧ (9 : Byte).toNat = own.ownSlot ∧ Quiet own ∧ own.ctl.station = .quarantined ∧
    (own.record 9).standing = .condemned ∧ ((station .quarantined).record 9).standing ≠ .condemned ∧ Quiet muted ∧
    muted.ctl.station = .mute .clockFault ∧ muted.ctl.latch = true ∧ (station (.mute .clockFault)).ctl.latch = false ∧
    s.ctl.station = .running := by decide +kernel

theorem witness_OtherCommandsAreAnswered :
    let closing := { station .running with lnk := { Link.reset with restartOpen := true } }
    Quiet (station .running) ∧ (station .running).ctl.inReset = false ∧ (station .running).lnk.restartOpen = false ∧
    (0x7F : Byte).toNat ∉ [0x10, 0x20, 0x21, 0x30, 0x40, 0x7E] ∧ (0x7E : Byte).toNat ∈ [0x10, 0x20, 0x21, 0x30, 0x40, 0x7E] ∧
    (cfgBytes.take 33).length < 34 ∧ 34 ≤ cfgBytes.length ∧ held.lnk.lead = none ∧ (station .running).lnk.lead = none ∧
    (after .readStatus (station .running)).lnk.lead = some 2 ∧ (after .readStatus (station .running)).lnk.response[0]? = some 0x01 ∧
    Quiet held ∧ held.ctl.inReset = true ∧ Quiet closing ∧ closing.lnk.restartOpen = true := by decide +kernel

theorem witness_LatchIsClearedOnlyByPowerOnOrRelease :
    let s := { station .quarantined with ctl := { (station .quarantined).ctl with latch := true } }
    s.ctl.latch = true ∧ (after (.release 9) s).ctl.latch = false ∧ (after .powerOnReset s).ctl.latch = false := by decide +kernel

theorem witness_OnlyResetsEndTheLockAndMute :
    isReset .clockFault = false ∧ (station .running).ctl.config = some cfg ∧ (station .running).ctl.station ≠ .unconfigured ∧
    (station .running).ctl.monitorArmed = true ∧ (station (.mute .slotConflict)).ctl.station = .mute .slotConflict ∧
    (station (.mute .slotConflict)).ctl.inReset = false ∧ (after .clockFault (station .running)).ctl.tickSource = .rc := by
  decide +kernel

theorem witness_CondemnationEndsOnlyByReleaseOrReplacement :
    let s := (station .running).setRecord 24 (scored 600 .condemned)
    Tables s ∧ (s.record 24).standing = .condemned ∧ ((after (.release 24) s).record 24).standing ≠ .condemned ∧
    ((after (enrolOf 24 7 3) s).record 24).standing ≠ .condemned := by decide +kernel

/-- A station about to retry a REBUT. -/
def retrying : State :=
  { (station .running).setBuffer [noteOf (.rebut 5 1 .miss) .rebut .retryHead] with pending := [.beginAttempt] }

theorem retrying_config (c : ConfigRecord) (h : c ∈ retrying.ctl.config) : c = cfg := by
  have h' : some cfg = some c := h
  exact (Option.some.inj h').symm

theorem witness_StepKeepsTheController : ControllerSound retrying ∧ ∃ t, step retrying = .next t := by
  refine ⟨⟨by decide +kernel, by decide +kernel, by decide +kernel, ?_, by decide +kernel, by decide +kernel, by decide +kernel,
    by decide +kernel, by decide +kernel, by decide +kernel⟩, _, rfl⟩
  intro c h
  rw [retrying_config c h]
  exact ⟨by decide +kernel, by decide +kernel, by decide +kernel⟩

theorem witness_StepKeepsTheTracker : TrackerSound retrying := by
  refine ⟨by decide, by decide, by decide, by decide, by decide, by decide, ?_, by decide, by decide⟩
  intro c _ e he
  exact absurd he (by decide +revert)

theorem witness_StepKeepsTheEvidence : EngineSound retrying := by decide +kernel

theorem witness_StepKeepsTheRosterAndTheQueue : RosterSound retrying ∧ LinkSound retrying := by
  refine ⟨⟨by decide +kernel, by decide +kernel, ?_, by decide +kernel⟩, by decide +kernel⟩
  intro c h
  rw [retrying_config c h]
  decide +kernel

theorem witness_StepKeepsTheBuffer : BufferSound retrying := by
  refine ⟨by decide +kernel, by decide +kernel, by decide +kernel, by decide +kernel, by decide +kernel, by decide +kernel, ?_,
    by decide +kernel, ?_⟩
  · intro c h
    rw [retrying_config c h]
    decide +kernel
  · rintro (h | ⟨r, h⟩)
    · exact absurd h (by decide)
    · exact absurd h (by cases r <;> decide)

end Sys2Proof.Tests
end

section
/-! Sample eligibility (R7): the level mask and the eligible tags, bit by bit. A level adds the lowest clear bit of the mask, which is
the bit that the carry of `m + 1` reaches; the bits added after L levels are those with fewer than L clear bits of the base mask below. -/

namespace Sys2Proof.Machine

/-! ### The clear bits of a mask below a bit -/

/-- How many bits of a mask below bit `i` are clear. -/
def clearBelow (m : Half) (i : Nat) : Nat := ((List.range i).filter fun j => !m.getLsbD j).length

@[simp] theorem clearBelow_zero (m : Half) : clearBelow m 0 = 0 := rfl

theorem clearBelow_succ (m : Half) (i : Nat) : clearBelow m (i + 1) = clearBelow m i + if m.getLsbD i then 0 else 1 := by
  cases h : m.getLsbD i <;> simp [clearBelow, List.range_succ, h]

theorem clearBelow_le_of_le (m : Half) {i k : Nat} (h : i ≤ k) : clearBelow m i ≤ clearBelow m k :=
  ((List.range_sublist.mpr h).filter _).length_le

/-- The clear bits below bit `i` number at most `n` exactly where each of them has fewer than `n` clear bits below itself. -/
theorem clearBelow_le_iff (m : Half) (n i : Nat) :
    clearBelow m i ≤ n ↔ ∀ j < i, m.getLsbD j = true ∨ clearBelow m j < n := by
  induction i with
  | zero => simp
  | succ i ih =>
    rw [Nat.forall_lt_succ_right, ← ih, clearBelow_succ]
    cases m.getLsbD i
    · simp; omega
    · simp

/-! ### The level mask -/

/-- The carry of `m + 1` reaches a bit above the lowest exactly where every bit below is set. -/
theorem carry_one_iff (m : Half) (k : Nat) : BitVec.carry (k + 1) m 1 false = true ↔ ∀ j < k + 1, m.getLsbD j = true := by
  simpa [Nat.lt_succ_iff] using congrArg (· = true) (BitVec.carry_succ_one k m (by decide))

theorem getLsbD_addLowestClear (m : Half) {i : Nat} (hi : i < 16) :
    (addLowestClear m).getLsbD i = true ↔ m.getLsbD i = true ∨ ∀ j < i, m.getLsbD j = true := by
  rw [addLowestClear, BitVec.getLsbD_or, BitVec.getLsbD_add hi]
  cases i with
  | zero => cases m.getLsbD 0 <;> simp
  | succ k =>
    rw [← carry_one_iff]
    cases m.getLsbD (k + 1) <;> simp

/-- The level mask holds the base mask's bits and the L lowest of its clear bits. -/
theorem getLsbD_levelMask (base : Half) (level : Nat) {i : Nat} (hi : i < 16) :
    (levelMask base level).getLsbD i = true ↔ base.getLsbD i = true ∨ clearBelow base i < level := by
  induction level generalizing i with
  | zero => simp [levelMask]
  | succ l ih =>
    have below : (∀ j < i, (levelMask base l).getLsbD j = true) ↔ clearBelow base i ≤ l := by
      rw [clearBelow_le_iff]
      exact forall₂_congr fun j hj => ih (hj.trans hi)
    rw [levelMask, getLsbD_addLowestClear _ hi, below, ih hi, or_assoc]
    exact or_congr_right (by omega)

/-- A base mask with fewer than L clear bits is filled up. -/
theorem levelMask_eq_full (base : Half) (level : Nat) (h : clearBelow base 16 < level) : levelMask base level = 0xFFFF := by
  change levelMask base level = BitVec.allOnes 16
  refine BitVec.eq_of_getLsbD_eq fun i hi => ?_
  rw [BitVec.getLsbD_allOnes, decide_eq_true hi, getLsbD_levelMask base level hi]
  exact .inr ((clearBelow_le_of_le base hi.le).trans_lt h)

theorem getLsbD_levelMask_of_le (base : Half) {low high i : Nat} (h : low ≤ high) (hi : i < 16)
    (hset : (levelMask base low).getLsbD i = true) : (levelMask base high).getLsbD i = true := by
  rw [getLsbD_levelMask base _ hi] at hset ⊢
  exact hset.imp_right h.trans_lt'

/-! ### Eligible tags -/

theorem sampleMatch_clear_outside_baseMask (record : List Byte) (i : Nat) (h : (configOf record).baseMask.getLsbD i = false) :
    (configOf record).sampleMatch.getLsbD i = false := by
  change (halfAt record 27 &&& (configOf record).baseMask).getLsbD i = false
  rw [BitVec.getLsbD_and, h, Bool.and_false]

/-- Two words agree under a mask where they agree on each of its bits. -/
theorem and_eq_and_iff (x y m : Half) :
    x &&& m = y &&& m ↔ ∀ i, i < 16 → m.getLsbD i = true → x.getLsbD i = y.getLsbD i := by
  constructor
  · intro h i _ hm
    simpa [hm] using congrArg (·.getLsbD i) h
  · intro h
    refine BitVec.eq_of_getLsbD_eq fun i hi => ?_
    rw [BitVec.getLsbD_and, BitVec.getLsbD_and]
    cases hm : m.getLsbD i
    · simp
    · rw [h i hi hm]

theorem tagEligible_iff (c : ConfigRecord) (level : Nat) (tag : Half) :
    tagEligible c level tag = true ↔
      ∀ i, i < 16 → (levelMask c.baseMask level).getLsbD i = true → tag.getLsbD i = c.sampleMatch.getLsbD i := by
  rw [tagEligible, decide_eq_true_iff, and_eq_and_iff]

theorem tagEligible_clear_on_added_bits (record : List Byte) (level i : Nat) (tag : Half) (hi : i < 16)
    (hset : (levelMask (configOf record).baseMask level).getLsbD i = true) (added : (configOf record).baseMask.getLsbD i = false)
    (h : tagEligible (configOf record) level tag = true) : tag.getLsbD i = false :=
  ((tagEligible_iff _ level tag).mp h i hi hset).trans (sampleMatch_clear_outside_baseMask record i added)

theorem tagEligible_of_le (c : ConfigRecord) (low high : Nat) (tag : Half) (h : low ≤ high)
    (eligible : tagEligible c high tag = true) : tagEligible c low tag = true := by
  rw [tagEligible_iff] at eligible ⊢
  exact fun i hi hset => eligible i hi (getLsbD_levelMask_of_le c.baseMask h hi hset)

/-- Settles O9: the level mask's bits by induction on the level, and the eligible tags from them. -/
theorem sampleEligibility : Obligations.SampleEligibility :=
  ⟨fun base level _ hi => getLsbD_levelMask base level hi, levelMask_eq_full, sampleMatch_clear_outside_baseMask, tagEligible_iff,
    tagEligible_clear_on_added_bits, tagEligible_of_le⟩

end Sys2Proof.Machine
end

section
/-! What a step leaves of the Station Controller. Every operation but a reset, the sampling of the straps, an accepted CONFIGURE and a
clock fault keeps the identity, the configuration record with its digest, the clock monitor and the tick source, and moves the station
state only from ENROLLING, RUNNING or QUARANTINED, never to UNCONFIGURED (R145, R149, R153). -/

namespace Sys2Proof.Machine

/-! ### The frame -/

/-- The states in which the station takes part on the bus: the only ones that an event other than a reset, CONFIGURE or a clock fault
leaves (R145). -/
def Station.live : Station → Bool
  | .enrolling | .running | .quarantined => true
  | .unconfigured | .mute _ => false

/-- What the operations behind the commands leave of the Station Controller: all but its state, latch, held-over trigger and the three
counters, and the state as well where it is not live. -/
structure StationFrame (s t : State) : Prop where
  ctl : t.ctl = { s.ctl with
    station := t.ctl.station, latch := t.ctl.latch, held := t.ctl.held,
    msCount := t.ctl.msCount, epoch := t.ctl.epoch, enrolCount := t.ctl.enrolCount }
  station : t.ctl.station = s.ctl.station ∨ (s.ctl.station.live = true ∧ t.ctl.station ≠ .unconfigured)

namespace StationFrame

variable {s t u : State}

theorem of_ctl_eq (h : t.ctl = s.ctl) : StationFrame s t := ⟨by rw [h], .inl (by rw [h])⟩

theorem refl (s : State) : StationFrame s s := of_ctl_eq rfl

theorem trans (h : StationFrame s t) (k : StationFrame t u) : StationFrame s u where
  ctl := by rw [k.ctl, h.ctl]
  station := by
    obtain hk | ⟨live, moved⟩ := k.station
    · rw [hk]; exact h.station
    · obtain hh | ⟨live', -⟩ := h.station
      · exact .inr ⟨hh ▸ live, moved⟩
      · exact .inr ⟨live', moved⟩

theorem of_engineFrame (h : EngineFrame s t) : StationFrame s t where
  ctl := by rw [h.ctl]
  station := h.station.imp_right fun ⟨running, quarantined⟩ => by simp [running, quarantined, Station.live]

/-- A state that has moved from a live one may be moved on. -/
theorem move (h : StationFrame s t) (live : s.ctl.station.live = true) {st : Station} (hst : st ≠ .unconfigured) :
    StationFrame s { t with ctl := { t.ctl with station := st } } := ⟨by simp only; rw [h.ctl], .inr ⟨live, hst⟩⟩

/-- An operation may come after a change outside the Station Controller. -/
theorem after_ctl_eq (e : t.ctl = s.ctl) (h : StationFrame t u) : StationFrame s u := (of_ctl_eq e).trans h

/-- An operation may be followed by a change outside the Station Controller. -/
theorem congr_ctl (h : StationFrame s t) (e : u.ctl = t.ctl) : StationFrame s u := h.trans (of_ctl_eq e)

theorem ite {p : Prop} [Decidable p] (ht : p → StationFrame s t) (hu : ¬ p → StationFrame s u) :
    StationFrame s (if p then t else u) := by
  split
  · exact ht ‹_›
  · exact hu ‹_›

/-- A step that is taken or passed over. -/
theorem ite_self {p : Prop} [Decidable p] (h : StationFrame s t) : StationFrame s (if p then t else s) := ite (fun _ => h) fun _ => refl s

theorem foldl {α : Type} (f : State → α → State) (h : ∀ s a, StationFrame s (f s a)) :
    ∀ (l : List α) (s : State), StationFrame s (l.foldl f s)
  | [], s => refl s
  | a :: rest, s => (h s a).trans (foldl f h rest (f s a))

theorem config (h : StationFrame s t) : t.ctl.config = s.ctl.config := by rw [h.ctl]

theorem ne_unconfigured (h : StationFrame s t) (hs : s.ctl.station ≠ .unconfigured) : t.ctl.station ≠ .unconfigured := by
  obtain e | ⟨-, moved⟩ := h.station
  · rwa [e]
  · exact moved

end StationFrame

/-! ### Operations outside the Station Controller -/

@[simp] theorem enqueue_ctl (n : Content) (s : State) : (s.enqueue n).ctl = s.ctl := by
  obtain ⟨_, _, e⟩ | ⟨_, e⟩ := enqueue_cases s n <;> simp [e]

@[simp] theorem queueBeacon_ctl (s : State) : s.queueBeacon.ctl = s.ctl := enqueue_ctl _ s

@[simp] theorem queueEnrol_ctl (s : State) : s.queueEnrol.ctl = s.ctl := enqueue_ctl _ s

@[simp] theorem leaveEnrolling_ctl (s : State) : s.leaveEnrolling.ctl = s.ctl := queueBeacon_ctl _

@[simp] theorem removeExchange_ctl (c : ConfigRecord) (p : OetEntry → Bool) (s : State) : (s.removeExchange c p).ctl = s.ctl := rfl

@[simp] theorem insertExchange_ctl (c : ConfigRecord) (r : TapEntry) (s : State) : (s.insertExchange c r).ctl = s.ctl := by
  obtain ⟨_, e⟩ | ⟨_, e⟩ := insertExchange_cases c r s <;> simp [e]

@[simp] theorem processRequest_ctl (c : ConfigRecord) (r : TapEntry) (s : State) : (s.processRequest c r).ctl = s.ctl := by
  unfold State.processRequest; split <;> simp

@[simp] theorem processCancel_ctl (c : ConfigRecord) (r : TapEntry) (s : State) : (s.processCancel c r).ctl = s.ctl := by
  unfold State.processCancel; split <;> simp

@[simp] theorem offerAnswer_ctl (c : ConfigRecord) (r : TapEntry) (s : State) : (s.offerAnswer c r).ctl = s.ctl := by
  unfold State.offerAnswer; split <;> rfl

@[simp] theorem takeClassTick_ctl (k : Fin 4) (s : State) : (s.takeClassTick k).ctl = s.ctl := rfl

@[simp] theorem storeTap_ctl (e : TapEntry) (s : State) : (s.storeTap e).ctl = s.ctl := by
  unfold State.storeTap; split <;> rfl

@[simp] theorem takeTapFrame_ctl (bytes : List Byte) (s : State) : (s.takeTapFrame bytes).ctl = s.ctl := by
  unfold State.takeTapFrame
  split
  · rfl
  split
  · rfl
  split
  · rfl
  split
  · exact storeTap_ctl _ s
  · rfl

@[simp] theorem decayScores_ctl (c : ConfigRecord) (s : State) : (s.decayScores c).ctl = s.ctl := rfl

@[simp] theorem expireWitnesses_ctl (c : ConfigRecord) (s : State) : (s.expireWitnesses c).ctl = s.ctl := rfl

@[simp] theorem lowerProbations_ctl (s : State) : s.lowerProbations.ctl = s.ctl := rfl

@[simp] theorem clearCounts_ctl (s : State) : s.clearCounts.ctl = s.ctl := rfl

@[simp] theorem lowerMutes_ctl (s : State) : s.lowerMutes.ctl = s.ctl := rfl

@[simp] theorem advanceLapse_ctl (c : ConfigRecord) (x : Nat) (s : State) : (s.advanceLapse c x).ctl = s.ctl := by
  unfold State.advanceLapse; dsimp only
  split
  · split <;> simp
  · rfl

@[simp] theorem advanceLapses_ctl (c : ConfigRecord) (s : State) : (s.advanceLapses c).ctl = s.ctl := by
  unfold State.advanceLapses
  induction slots generalizing s with
  | nil => rfl
  | cons x rest ih => rw [List.foldl_cons, ih, advanceLapse_ctl]

@[simp] theorem blindWork_ctl (s : State) : s.blindWork.ctl = s.ctl := by
  unfold State.blindWork; split <;> rfl

@[simp] theorem transmitterWork_ctl (c : ConfigRecord) (s : State) : (s.transmitterWork c).ctl = s.ctl := by
  unfold State.transmitterWork; dsimp only
  split
  · split <;> simp
  · rfl

@[simp] theorem noteConflict_ctl (x : Nat) (kept : Word) (refused : Refused) (s : State) :
    (s.noteConflict x kept refused).ctl = s.ctl := by
  obtain e | e := noteConflict_cases x kept refused s <;> simp [e]

@[simp] theorem ownSlotFinding_ctl (tag : Half) (s : State) : (s.ownSlotFinding tag).ctl = s.ctl := noteConflict_ctl _ _ _ s

@[simp] theorem compareDigest_ctl (x : Nat) (d : Half) (s : State) : (s.compareDigest x d).ctl = s.ctl := by
  obtain ⟨_, e⟩ | ⟨_, e⟩ := compareDigest_cases x d s <;> simp [e]

@[simp] theorem refreshPresence_ctl (x : Nat) (s : State) : (s.refreshPresence x).ctl = s.ctl := by
  obtain ⟨_, e⟩ | ⟨_, e⟩ := refreshPresence_cases x s <;> simp [e]

@[simp] theorem setSequence_ctl (x : Nat) (seq : Byte) (s : State) : (s.setSequence x seq).ctl = s.ctl := rfl

@[simp] theorem discardGarbled_ctl (s : State) : s.discardGarbled.ctl = s.ctl := rfl

@[simp] theorem discardIncomplete_ctl (s : State) : s.discardIncomplete.ctl = s.ctl := rfl

@[simp] theorem begin_ctl (s : State) : s.begin.ctl = s.ctl := by
  unfold State.begin
  split
  · split
    · split
      · split <;> rfl
      · rfl
    · rfl
  · rfl

@[simp] theorem returnToBuffer_ctl (i : Nat) (n : TxNote) (s : State) : (s.returnToBuffer i n).ctl = s.ctl := by
  unfold State.returnToBuffer; split <;> rfl

@[simp] theorem loseArbitration_ctl (line : Byte) (s : State) : (s.loseArbitration line).ctl = s.ctl := by
  unfold State.loseArbitration
  split
  · split
    · split
      · exact returnToBuffer_ctl _ _ s
      · rfl
    · rfl
  · rfl

@[simp] theorem failAttempt_ctl (s : State) : s.failAttempt.ctl = s.ctl := by
  unfold State.failAttempt
  split
  · split
    · split
      · rfl
      · split <;> simp
    · rfl
  · rfl

@[simp] theorem completeAttempt_ctl (s : State) : s.completeAttempt.ctl = s.ctl := by
  unfold State.completeAttempt; split <;> rfl

@[simp] theorem goIdle_ctl (s : State) : s.goIdle.ctl = s.ctl := by
  unfold State.goIdle; split <;> rfl

/-! ### Observations and expiries -/

theorem observe_stationFrame (c : ConfigRecord) (a : Nat) (k : AccKind) (t : Half) (s : State) :
    StationFrame s (s.observe c a k t) := by
  have counted : StationFrame s { s with choices := s.choices + 1 } := .of_ctl_eq rfl
  obtain e | ⟨_, e⟩ | ⟨_, e | e⟩ := observe_cases c a k t s <;> rw [e]
  · exact .refl s
  · exact .of_engineFrame (addTagged_frame _ _ _ _ _ _)
  · exact counted.trans (.of_engineFrame ((announce_frame _ _ _ _).trans (addTagged_frame _ _ _ _ _ _)))
  · exact counted.trans (.of_engineFrame ((addTagged_frame _ _ _ _ _ _).trans (announce_frame _ _ _ _)))

theorem matchResponse_stationFrame (c : ConfigRecord) (r : TapEntry) (s : State) : StationFrame s (s.matchResponse c r) := by
  unfold State.matchResponse; dsimp only
  split
  · have removed : StationFrame s (s.removeExchange c (isExchange r.dir.opposite r.peer r.tag)) := .of_ctl_eq rfl
    exact .ite (fun _ => removed) fun _ => removed.trans (observe_stationFrame _ _ _ _ _)
  · exact .refl s

theorem processRecord_stationFrame (c : ConfigRecord) (r : TapEntry) (s : State) : StationFrame s (s.processRecord c r) := by
  unfold State.processRecord
  cases r.kind with
  | request => exact .of_ctl_eq (processRequest_ctl c r s)
  | response => exact (matchResponse_stationFrame c r s).congr_ctl (offerAnswer_ctl c r _)
  | cancel => exact .of_ctl_eq (processCancel_ctl c r s)
  | other => exact .refl s

theorem expireOldest_stationFrame (c : ConfigRecord) (s : State) : StationFrame s (s.expireOldest c) := by
  unfold State.expireOldest; dsimp only
  split
  · have removed : StationFrame s (s.removeExchange c expiring) := .of_ctl_eq rfl
    exact .ite (fun _ => removed) fun _ => removed.trans (observe_stationFrame _ _ _ _ _)
  · exact .refl s

theorem expireTimes_stationFrame (c : ConfigRecord) : ∀ (n : Nat) (s : State), StationFrame s (s.expireTimes c n)
  | 0, s => .refl s
  | n + 1, s => (expireOldest_stationFrame c s).trans (expireTimes_stationFrame c n _)

theorem expireAll_stationFrame (c : ConfigRecord) (s : State) : StationFrame s (s.expireAll c) := expireTimes_stationFrame c _ s

theorem classTickWork_stationFrame (c : ConfigRecord) (k : Fin 4) (s : State) : StationFrame s (s.classTickWork c k) :=
  .ite_self ((StationFrame.of_ctl_eq (takeClassTick_ctl k s)).trans (expireAll_stationFrame c _))

theorem allClassTicks_stationFrame (c : ConfigRecord) (s : State) : StationFrame s (s.allClassTicks c) :=
  .foldl _ (fun s k => classTickWork_stationFrame c k s) _ s

/-! ### The work at a boundary -/

theorem crossBoundary_stationFrame (s : State) : StationFrame s s.crossBoundary := ⟨rfl, .inl rfl⟩

theorem evidenceUpTo_stationFrame (c : ConfigRecord) (k : Nat) (s : State) : StationFrame s (s.evidenceUpTo c k) := by
  unfold State.evidenceUpTo
  have marked : StationFrame s (s.setEvidenceDue (if 6 ≤ k then 0 else k)) := .of_ctl_eq rfl
  have decay (t : State) : StationFrame t (t.decayScores c) := .of_ctl_eq rfl
  have expire (t : State) : StationFrame t (t.expireWitnesses c) := .of_ctl_eq rfl
  have promote (t : State) : StationFrame t (t.applyDue c) := .of_engineFrame (applyDue_frame c t)
  have evaluate (t : State) : StationFrame t (t.evaluateAll c) := .of_engineFrame (evaluateAll_frame c t)
  have lower (t : State) : StationFrame t t.lowerProbations := .of_ctl_eq rfl
  exact ((((marked.trans (.ite_self (decay _))).trans (.ite_self (expire _))).trans (.ite_self (promote _))).trans
    (.ite_self (evaluate _))).trans (.ite_self (lower _))

theorem receiverUpTo_stationFrame (c : ConfigRecord) (k : Nat) (s : State) : StationFrame s (s.receiverUpTo c k) := by
  unfold State.receiverUpTo
  have clear (t : State) : StationFrame t t.clearCounts := .of_ctl_eq rfl
  have lower (t : State) : StationFrame t t.lowerMutes := .of_ctl_eq rfl
  have lapse (t : State) : StationFrame t (t.advanceLapses c) := .of_ctl_eq (advanceLapses_ctl c t)
  have quorum (t : State) : StationFrame t (t.peerQuorum c) := .of_engineFrame (peerQuorum_frame c t)
  exact ((((StationFrame.ite_self (clear s)).trans (.ite_self (lower _))).trans (.ite_self (lapse _))).trans
    (.ite_self (quorum _))).congr_ctl rfl

theorem evidenceWork_stationFrame (c : ConfigRecord) (s : State) : StationFrame s (s.evidenceWork c) :=
  .ite_self (evidenceUpTo_stationFrame c 6 s)

theorem receiverWork_stationFrame (c : ConfigRecord) (s : State) : StationFrame s (s.receiverWork c) :=
  .ite_self (receiverUpTo_stationFrame c 5 s)

/-! ### Quarantine and MUTE -/

theorem enterQuarantined_stationFrame (c : ConfigRecord) (k : Trigger) (z : Nat) (s : State) (live : s.ctl.station.live = true) :
    StationFrame s (s.enterQuarantined c k z) := by
  obtain ⟨hctl, -⟩ := enterQuarantined_eq c k z s
  exact ⟨by rw [hctl], .inr ⟨live, by simp [hctl]⟩⟩

theorem triggerInMute_stationFrame (c : ConfigRecord) (k : Trigger) (z : Nat) (s : State) :
    StationFrame s (s.triggerInMute c k z) := .ite_self ⟨by simp, .inl (by simp)⟩

theorem muted_stationFrame (d : MuteDetail) (s : State) (live : s.ctl.station.live = true) : StationFrame s (s.muted d) :=
  ⟨by simp [State.muted], .inr ⟨live, by simp [State.muted]⟩⟩

theorem enterMute_stationFrame (c : ConfigRecord) (d : MuteDetail) (s : State) (live : s.ctl.station.live = true) :
    StationFrame s (s.enterMute c d) := by
  obtain e | ⟨h, _, _, _, e⟩ := enterMute_cases c d s <;> rw [e]
  · exact muted_stationFrame d s live
  · exact (muted_stationFrame d s live).trans (triggerInMute_stationFrame _ _ _ _)

/-! ### Enrolment -/

theorem endEnrolment_stationFrame (c : ConfigRecord) (s : State) (enrolling : s.ctl.station = .enrolling) :
    StationFrame s (s.endEnrolment c) := by
  have live : s.ctl.station.live = true := by rw [enrolling]; rfl
  have unheld : StationFrame s { s with ctl := { s.ctl with held := none } } := ⟨rfl, .inl rfl⟩
  have quarantined (k : Trigger) (z : Nat) :
      StationFrame s (({ s with ctl := { s.ctl with held := none } } : State).enterQuarantined c k z).leaveEnrolling :=
    (unheld.trans (enterQuarantined_stationFrame c k z _ live)).congr_ctl (leaveEnrolling_ctl _)
  have running : StationFrame s { s with ctl := { s.ctl with held := none, station := .running } } := unheld.move live nofun
  exact .ite (fun _ => enterMute_stationFrame c _ s live) fun _ =>
    .ite (fun _ => quarantined _ _) fun _ => .ite (fun _ => quarantined _ _) fun _ => running.congr_ctl (leaveEnrolling_ctl _)

theorem enrolmentWork_stationFrame (c : ConfigRecord) (s : State) : StationFrame s (s.enrolmentWork c) := by
  have counted : StationFrame s { s with
      ctl := { s.ctl with enrolCount := s.ctl.enrolCount + 1 }, due := { s.due with enrolment := false } } := ⟨rfl, .inl rfl⟩
  exact .ite
    (fun h => .ite (fun _ => counted.congr_ctl (queueEnrol_ctl _)) fun _ => counted.trans (endEnrolment_stationFrame c _ h.2))
    fun _ => .of_ctl_eq rfl

/-! ### The notes of other stations -/

theorem countAccepted_stationFrame (c : ConfigRecord) (x : Nat) (s : State) : StationFrame s (s.countAccepted c x) := by
  obtain ⟨_, e⟩ | ⟨_, e⟩ := countAccepted_cases c x s <;> rw [e]
  · exact .of_ctl_eq rfl
  · exact .after_ctl_eq (by rfl) (.of_engineFrame (applyAndEvaluate_frame _ _ _ _ _ _))

theorem takeView_stationFrame (c : ConfigRecord) (x : Nat) (view : Option BeaconView) (s : State) :
    StationFrame s (s.takeView c x view) := by
  cases view with
  | none => exact .refl s
  | some v =>
    have flagged : StationFrame s (s.setEntry x { s.entry x with
        quarantined := v.quarantined, saturated := v.saturated,
        condemnsMe := v.condemned.any fun b => decide (b.toNat = s.ownSlot) }) := .of_ctl_eq rfl
    have reported (t : State) : StationFrame t (t.selfReport x) := .of_engineFrame (changeStanding_frame t _ _ _)
    exact (flagged.trans (.ite_self (reported _))).trans (.of_engineFrame (peerQuorum_frame c _))

theorem replaceBoard_frame (c : ConfigRecord) (x : Nat) (s : State) : EngineFrame s (s.replaceBoard c x) :=
  (setAccusations_frame _ _).trans (clearRecord_frame _ _ _ _)

/-- The content of a note and its count come last, whatever the entry has become before. -/
theorem takeView_countAccepted_stationFrame (c : ConfigRecord) (x : Nat) (view : Option BeaconView) {s t : State}
    (h : StationFrame s t) : StationFrame s ((t.takeView c x view).countAccepted c x) :=
  (h.trans (takeView_stationFrame c x view t)).trans (countAccepted_stationFrame c x _)

theorem firstEnrolment_stationFrame (c : ConfigRecord) (x : Nat) (seq : Byte) (serial : Word) (role : Role) (digest : Half)
    (view : Option BeaconView) (s : State) : StationFrame s (s.firstEnrolment c x seq serial role digest view) :=
  takeView_countAccepted_stationFrame c x view (.of_ctl_eq (by simp))

theorem sameSerial_stationFrame (c : ConfigRecord) (x : Nat) (seq : Byte) (role : Role) (digest : Half) (view : Option BeaconView)
    (s : State) : StationFrame s (s.sameSerial c x seq role digest view) := by
  have refreshed : StationFrame s (((s.setEntry x { s.entry x with role := role, lastSeq := some seq }).compareDigest x
      digest).refreshPresence x) := .of_ctl_eq (by simp)
  exact .ite (fun _ => refreshed.trans (takeView_stationFrame c x view _))
    fun _ => takeView_countAccepted_stationFrame c x view refreshed

theorem replacement_stationFrame (c : ConfigRecord) (x : Nat) (serial : Word) (role : Role) (digest : Half) (view : Option BeaconView)
    (s : State) : StationFrame s (s.replacement c x serial role digest view) := by
  have posted : StationFrame s ((s.setEntry x (changedEntry (s.entry x) serial role)).post (.replaced x (s.entry x).serial serial)) :=
    .of_ctl_eq (by simp)
  exact takeView_countAccepted_stationFrame c x view
    ((posted.trans (.of_engineFrame (replaceBoard_frame c x _))).congr_ctl (compareDigest_ctl x digest _))

theorem switchStation_stationFrame (c : ConfigRecord) (x : Nat) (serial : Word) (role : Role) (digest : Half) (view : Option BeaconView)
    (s : State) : StationFrame s (s.switchStation c x serial role digest view) :=
  takeView_countAccepted_stationFrame c x view (.ite (fun _ => .of_ctl_eq (by simp)) fun _ => .of_ctl_eq (by simp))

theorem peerIdentity_stationFrame (c : ConfigRecord) (x : Nat) (seq : Byte) (serial : Word) (role : Role) (digest : Half)
    (view : Option BeaconView) (s : State) : StationFrame s (s.peerIdentity c x seq serial role digest view) :=
  .ite (fun _ => firstEnrolment_stationFrame c x seq serial role digest view s) fun _ =>
    .ite (fun _ => sameSerial_stationFrame c x seq role digest view s) fun _ =>
      .ite (fun _ => replacement_stationFrame c x serial role digest view s) fun _ =>
        .ite (fun _ => switchStation_stationFrame c x serial role digest view s) fun _ => .of_ctl_eq (noteConflict_ctl _ _ _ s)

theorem loseConflict_stationFrame (c : ConfigRecord) (kept : Word) (s : State) : StationFrame s (s.loseConflict c kept) := by
  unfold State.loseConflict
  cases h : s.ctl.station with
  | enrolling => exact enterMute_stationFrame c _ s (by rw [h]; rfl)
  | running => exact enterMute_stationFrame c _ s (by rw [h]; rfl)
  | quarantined => exact enterMute_stationFrame c _ s (by rw [h]; rfl)
  | unconfigured => exact .refl s
  | mute r => exact .refl s

theorem ownSlotIdentity_stationFrame (c : ConfigRecord) (serial : Word) (s : State) : StationFrame s (s.ownSlotIdentity c serial) := by
  have noted (kept : Word) (refused : Refused) : StationFrame s (s.noteConflict s.ownSlot kept refused) :=
    .of_ctl_eq (noteConflict_ctl _ _ _ s)
  exact .ite (fun _ => .refl s) fun _ =>
    .ite (fun _ => noted _ _) fun _ => (noted _ _).trans (loseConflict_stationFrame c serial _)

theorem takeIdentity_stationFrame (sender : BitVec 5) (seq : Byte) (serial : Word) (role : Role) (digest : Half)
    (view : Option BeaconView) (s : State) : StationFrame s (s.takeIdentity sender seq serial role digest view) := by
  unfold State.takeIdentity
  cases s.ctl.config with
  | none => exact .refl s
  | some c =>
    exact .ite (fun _ => .refl s) fun _ =>
      .ite (fun _ => ownSlotIdentity_stationFrame c serial s) fun _ => peerIdentity_stationFrame c _ seq serial role digest view s

theorem offerRebut_frame (c : ConfigRecord) (a : Nat) (k : AccKind) (t : Half) (s : State) : EngineFrame s (s.offerRebut c a k t) := by
  obtain ⟨_, e⟩ | ⟨_, ⟨_, _, e⟩ | ⟨_, e⟩⟩ := offerRebut_cases c a k t s <;> rw [e]
  · exact .refl s
  · exact (setBuffer_frame _ _).trans (takeRebut_frame _ _ _ _ _ _)
  · exact latchFlag_frame _ _

theorem lookupAndRebut_frame (c : ConfigRecord) (a : Nat) (k : AccKind) (t : Half) (s : State) :
    EngineFrame s (s.lookupAndRebut c a k t) := by
  obtain ⟨_, e⟩ | ⟨_, e⟩ := lookupAndRebut_cases c a k t s <;> rw [e]
  · exact offerRebut_frame c a k t s
  · exact .refl s

theorem carryOut_stationFrame (c : ConfigRecord) (r : Request) (s : State) : StationFrame s (s.carryOut c r) := by
  cases r with
  | addTagged x a k t => exact .of_engineFrame (addTagged_frame c x a k t s)
  | addSurplus x a k n => exact .of_engineFrame (addSurplus_frame c x a k n s)
  | lookup a k t => exact .of_engineFrame (lookupAndRebut_frame c a k t s)
  | count x => exact countAccepted_stationFrame c x s

theorem carryOutAll_stationFrame (c : ConfigRecord) (run : List Request) (s : State) : StationFrame s (s.carryOutAll c run) :=
  .foldl _ (fun s r => carryOut_stationFrame c r s) run s

theorem beginRun_stationFrame (c : ConfigRecord) (run : List Request) (s : State) : StationFrame s (s.beginRun c run) := by
  obtain ⟨done, held, t, -, -, ht, e⟩ := beginRun_parts c run s
  have carried : StationFrame s t := ht ▸ .after_ctl_eq (by rfl) (carryOutAll_stationFrame c done _)
  exact e ▸ carried.congr_ctl rfl

theorem acceptRebut_stationFrame (c : ConfigRecord) (n : RebutNote) (s : State) : StationFrame s (s.acceptRebut c n) :=
  ((StationFrame.of_ctl_eq (setSequence_ctl _ _ s)).trans (.of_engineFrame (takeRebut_frame _ _ _ _ _ _))).trans
    (countAccepted_stationFrame c _ _)

theorem acceptAccuse_stationFrame (c : ConfigRecord) (n : AccuseNote) (s : State) : StationFrame s (s.acceptAccuse c n) :=
  (StationFrame.of_ctl_eq (setSequence_ctl _ _ s)).trans (beginRun_stationFrame c _ _)

theorem takeAccuse_stationFrame (n : AccuseNote) (s : State) : StationFrame s (s.takeAccuse n) := by
  unfold State.takeAccuse
  cases s.ctl.config with
  | none => exact .refl s
  | some c =>
    exact .ite (fun _ => .refl s) fun _ =>
      .ite (fun _ => .of_ctl_eq (ownSlotFinding_ctl _ s)) fun _ => .ite_self (acceptAccuse_stationFrame c n s)

theorem takeRebutNote_stationFrame (n : RebutNote) (s : State) : StationFrame s (s.takeRebutNote n) := by
  unfold State.takeRebutNote
  cases s.ctl.config with
  | none => exact .refl s
  | some c =>
    exact .ite (fun _ => .refl s) fun _ =>
      .ite (fun _ => .of_ctl_eq (ownSlotFinding_ctl _ s)) fun _ => .ite_self (acceptRebut_stationFrame c n s)

theorem takeNote_stationFrame (n : Note) (s : State) : StationFrame s (s.takeNote n) := by
  have busy : StationFrame s s.lineBusy := .of_ctl_eq rfl
  refine .ite (fun _ => .refl s) fun _ => .ite (fun _ => .of_ctl_eq (discardGarbled_ctl s)) fun _ => busy.trans ?_
  cases n with
  | enrol e => exact takeIdentity_stationFrame _ _ _ _ _ _ _
  | beacon b => exact takeIdentity_stationFrame _ _ _ _ _ _ _
  | accuse a => exact takeAccuse_stationFrame a _
  | rebut r => exact takeRebutNote_stationFrame r _

theorem takeReception_stationFrame (r : Reception) (s : State) : StationFrame s (s.takeReception r) := by
  obtain ⟨_, e⟩ | ⟨_, n, _, e⟩ | ⟨_, _, _, e⟩ | ⟨_, _, _, _, e⟩ := takeReception_cases r s <;> rw [e]
  · exact .refl s
  · exact takeNote_stationFrame n s
  · exact .of_ctl_eq (discardGarbled_ctl s)
  · exact .of_ctl_eq (discardIncomplete_ctl s)

/-! ### Releases -/

theorem dropAgainst_frame (x : Nat) (s : State) : EngineFrame s (s.dropAgainst x) := setAccusations_frame _ _

theorem clearOwnRecord_frame (c : ConfigRecord) (s : State) : EngineFrame s (s.clearOwnRecord c) := by
  unfold State.clearOwnRecord; dsimp only
  split
  · exact clearRecord_frame _ _ _ _
  · exact setRecord_frame _ _ _

theorem releaseOwn_stationFrame (c : ConfigRecord) (s : State) (quarantined : s.ctl.station = .quarantined) :
    StationFrame s (s.releaseOwn c) := by
  have unlatched : StationFrame s { s with ctl := { s.ctl with latch := false } } := ⟨rfl, .inl rfl⟩
  have cleared := unlatched.trans (.of_engineFrame ((dropAgainst_frame s.ownSlot _).trans (clearOwnRecord_frame c _)))
  exact (cleared.move (by rw [quarantined]; rfl) (st := .running) nofun).congr_ctl (State.post_ctl _ _)

theorem clearLatch_stationFrame (s : State) : StationFrame s s.clearLatch :=
  ⟨by simp [State.clearLatch], .inl (by simp [State.clearLatch])⟩

theorem takeOwnRelease_stationFrame (s : State) : StationFrame s s.takeOwnRelease.1 := by
  unfold State.takeOwnRelease
  split
  · exact releaseOwn_stationFrame _ s ‹_›
  · split
    · exact clearLatch_stationFrame s
    · exact .refl s
  · exact .refl s

theorem takePeerRelease_stationFrame (x : Nat) (s : State) : StationFrame s (s.takePeerRelease x).1 := by
  unfold State.takePeerRelease
  split
  · split
    · exact .of_engineFrame ((dropAgainst_frame x s).trans (clearRecord_frame _ _ _ _))
    · exact .refl s
  · exact .refl s

theorem takeRelease_stationFrame (x : Nat) (s : State) : StationFrame s (s.takeRelease x) := by
  unfold State.takeRelease; dsimp only
  split
  · exact .of_ctl_eq rfl
  · split
    · exact (takeOwnRelease_stationFrame s).congr_ctl rfl
    · exact (takePeerRelease_stationFrame x s).congr_ctl rfl

/-! ### Finishing what is partway -/

theorem finishRun_stationFrame (s : State) : StationFrame s s.finishRun := by
  unfold State.finishRun
  split
  · exact (carryOutAll_stationFrame _ _ s).congr_ctl rfl
  · exact .refl s

theorem finishExpiries_stationFrame (s : State) : StationFrame s s.finishExpiries := by
  unfold State.finishExpiries
  split
  · exact expireAll_stationFrame _ s
  · exact .refl s

theorem finishEvidence_stationFrame (s : State) : StationFrame s s.finishEvidence := by
  unfold State.finishEvidence
  split
  · exact .ite_self (evidenceUpTo_stationFrame _ _ s)
  · exact .refl s

theorem finishReceiver_stationFrame (s : State) : StationFrame s s.finishReceiver := by
  unfold State.finishReceiver
  split
  · exact .ite_self (receiverUpTo_stationFrame _ _ s)
  · exact .refl s

theorem finishEvidenceForView_stationFrame (s : State) : StationFrame s s.finishEvidenceForView := by
  unfold State.finishEvidenceForView
  split
  · exact .ite (fun _ => evidenceUpTo_stationFrame _ _ s) fun _ => .ite_self (evidenceUpTo_stationFrame _ _ s)
  · exact .refl s

theorem finishWorks_stationFrame (s : State) : StationFrame s s.finishWorks :=
  ((finishExpiries_stationFrame s).trans (finishEvidence_stationFrame _)).trans (finishReceiver_stationFrame _)

theorem finishForView_stationFrame (s : State) : StationFrame s s.finishForView :=
  ((finishExpiries_stationFrame s).trans (finishEvidenceForView_stationFrame _)).trans (finishReceiver_stationFrame _)

theorem settle_stationFrame (s : State) : StationFrame s s.settle := (finishRun_stationFrame s).trans (finishWorks_stationFrame _)

/-- What is finished before a part of the Evidence Engine's boundary work. -/
theorem finishBeforeEvidence_stationFrame (s : State) : StationFrame s s.finishRun.finishExpiries.finishReceiver :=
  ((finishRun_stationFrame s).trans (finishExpiries_stationFrame _)).trans (finishReceiver_stationFrame _)

/-- What is finished before a part of the Note Receiver's boundary work. -/
theorem finishBeforeReceiver_stationFrame (s : State) : StationFrame s s.finishRun.finishExpiries.finishEvidence :=
  ((finishRun_stationFrame s).trans (finishExpiries_stationFrame _)).trans (finishEvidence_stationFrame _)

theorem catchUp_stationFrame (c : ConfigRecord) (s : State) : StationFrame s (s.catchUp c) := by
  have ticked : StationFrame s (s.settle.allClassTicks c) := (settle_stationFrame s).trans (allClassTicks_stationFrame c _)
  have crossed := ticked.trans (.ite_self (p := (s.settle.allClassTicks c).due.boundary = true) (crossBoundary_stationFrame _))
  exact ((((crossed.congr_ctl (blindWork_ctl _)).trans (evidenceWork_stationFrame c _)).trans (receiverWork_stationFrame c _)).congr_ctl
    (transmitterWork_ctl c _)).trans (enrolmentWork_stationFrame c _)

theorem advanceCount_stationFrame (c : ConfigRecord) (s : State) : StationFrame s (s.advanceCount c) := ⟨rfl, .inl rfl⟩

/-! ### The commands -/

/-- The commands that may change more of the Station Controller than its state, latch, held-over trigger and counters. -/
def changesController : Instr → Bool
  | .powerOnReset | .resetNLow | .restartWarmReset | .leaveReset _ _ | .configure _ | .clockFault => true
  | _ => false

/-- What a command comes to: it answers a next state that keeps the frame. -/
def AnswersInFrame (r : Result) (s : State) : Prop := ∃ t, r = .next t ∧ StationFrame s t

theorem execEvidenceBoundaryWork_inFrame (s : State) : AnswersInFrame (execEvidenceBoundaryWork s) s := by
  refine ⟨_, rfl, (finishBeforeEvidence_stationFrame s).trans ?_⟩
  split
  · exact evidenceWork_stationFrame _ _
  · exact .refl _

theorem execWitnessExpiry_inFrame (accused witness : Nat) (s : State) : AnswersInFrame (execWitnessExpiry accused witness s) s := by
  refine ⟨_, rfl, (finishBeforeEvidence_stationFrame s).trans ?_⟩
  split
  · exact .ite_self ((evidenceUpTo_stationFrame _ _ _).congr_ctl rfl)
  · exact .refl _

theorem execPendingEntryDue_inFrame (s : State) : AnswersInFrame (execPendingEntryDue s) s := by
  refine ⟨_, rfl, (finishBeforeEvidence_stationFrame s).trans ?_⟩
  split
  · split
    · exact .ite_self (((evidenceUpTo_stationFrame _ _ _).trans (.of_engineFrame (applyItem_frame _ _ _ _ _ _))).congr_ctl rfl)
    · exact .refl _
  · exact .refl _

theorem execProbationEnd_inFrame (slot : Nat) (s : State) : AnswersInFrame (execProbationEnd slot s) s := by
  refine ⟨_, rfl, (finishBeforeEvidence_stationFrame s).trans ?_⟩
  split
  · exact .ite_self ((evidenceUpTo_stationFrame _ _ _).congr_ctl rfl)
  · exact .refl _

theorem execNoteReceiverBoundaryWork_inFrame (s : State) : AnswersInFrame (execNoteReceiverBoundaryWork s) s := by
  refine ⟨_, rfl, (finishBeforeReceiver_stationFrame s).trans ?_⟩
  split
  · exact receiverWork_stationFrame _ _
  · exact .refl _

theorem execMuteEnd_inFrame (slot : Nat) (s : State) : AnswersInFrame (execMuteEnd slot s) s := by
  refine ⟨_, rfl, (finishBeforeReceiver_stationFrame s).trans ?_⟩
  split
  · exact .ite_self ((receiverUpTo_stationFrame _ _ _).congr_ctl rfl)
  · exact .refl _

theorem execLapse_inFrame (slot : Nat) (s : State) : AnswersInFrame (execLapse slot s) s := by
  refine ⟨_, rfl, (finishBeforeReceiver_stationFrame s).trans ?_⟩
  split
  · exact .ite_self ((receiverUpTo_stationFrame _ _ _).congr_ctl (advanceLapse_ctl _ _ _))
  · exact .refl _

theorem execNoteTransmitterBoundaryWork_inFrame (s : State) : AnswersInFrame (execNoteTransmitterBoundaryWork s) s := by
  refine ⟨_, rfl, (settle_stationFrame s).trans ?_⟩
  split
  · exact .of_ctl_eq (transmitterWork_ctl _ _)
  · exact .refl _

theorem execEnrolmentStep_inFrame (s : State) : AnswersInFrame (execEnrolmentStep s) s := by
  refine ⟨_, rfl, (settle_stationFrame s).trans ?_⟩
  split
  · exact enrolmentWork_stationFrame _ _
  · exact .refl _

theorem execEndOfEnrolment_inFrame (s : State) : AnswersInFrame (execEndOfEnrolment s) s := by
  refine ⟨_, rfl, (settle_stationFrame s).trans ?_⟩
  split
  · exact .ite_self (enrolmentWork_stationFrame _ _)
  · exact .refl _

theorem execTakeTapRecord_inFrame (s : State) : AnswersInFrame (execTakeTapRecord s) s := by
  refine ⟨_, rfl, (settle_stationFrame s).trans ?_⟩
  split
  · exact .after_ctl_eq (by rfl) (processRecord_stationFrame _ _ _)
  · exact .refl _
  · exact .refl _

theorem execMsTick_inFrame (s : State) : AnswersInFrame (execMsTick s) s := by
  refine ⟨_, rfl, ?_⟩
  split
  · exact (catchUp_stationFrame _ s).trans (advanceCount_stationFrame _ _)
  · exact .refl s

theorem execOetEntryExpiry_inFrame (s : State) : AnswersInFrame (execOetEntryExpiry s) s := by
  refine ⟨_, rfl, ?_⟩
  split
  · exact (finishRun_stationFrame s).trans (expireOldest_stationFrame _ _)
  · exact .refl s

theorem execFlagsByteClocked_inFrame (s : State) : AnswersInFrame (execFlagsByteClocked s) s := by
  refine ⟨_, rfl, (settle_stationFrame s).trans ?_⟩
  split
  · exact .of_ctl_eq rfl
  · exact .refl _

theorem execTakeNotice_inFrame (s : State) : AnswersInFrame (execTakeNotice s) s := by
  refine ⟨_, rfl, (settle_stationFrame s).trans (.ite_self ?_)⟩
  split <;> exact .of_ctl_eq rfl

/-- Every command that is no reset, LEAVE_RESET, CONFIGURE or CLOCK_FAULT keeps the frame. -/
theorem exec_inFrame (i : Instr) (s : State) (h : changesController i = false) : AnswersInFrame (exec i s) s := by
  have settled := settle_stationFrame s
  cases i with
  | powerOnReset => cases h
  | resetNLow => cases h
  | leaveReset slotStrap roleStrap => cases h
  | restartWarmReset => cases h
  | configure record => cases h
  | clockFault => cases h
  | tapRecord bytes => exact ⟨_, rfl, settled.congr_ctl (takeTapFrame_ctl _ _)⟩
  | tapRecordIncomplete bytes => exact ⟨_, rfl, settled.congr_ctl (takeTapFrame_ctl _ _)⟩
  | takeTapRecord => exact execTakeTapRecord_inFrame s
  | msTick => exact execMsTick_inFrame s
  | classTick cls => exact ⟨_, rfl, settled.trans (.ite_self (.of_ctl_eq (takeClassTick_ctl _ _)))⟩
  | oetEntryExpiry => exact execOetEntryExpiry_inFrame s
  | epochBoundary => exact ⟨_, rfl, settled.trans (.ite_self (crossBoundary_stationFrame _))⟩
  | evidenceBoundaryWork => exact execEvidenceBoundaryWork_inFrame s
  | witnessExpiry accused witness => exact execWitnessExpiry_inFrame accused witness s
  | pendingEntryDue => exact execPendingEntryDue_inFrame s
  | probationEnd slot => exact execProbationEnd_inFrame slot s
  | blindPeriodEnd => exact ⟨_, rfl, settled.congr_ctl (blindWork_ctl _)⟩
  | noteReceiverBoundaryWork => exact execNoteReceiverBoundaryWork_inFrame s
  | muteEnd slot => exact execMuteEnd_inFrame slot s
  | lapse slot => exact execLapse_inFrame slot s
  | noteTransmitterBoundaryWork => exact execNoteTransmitterBoundaryWork_inFrame s
  | enrolmentStep => exact execEnrolmentStep_inFrame s
  | endOfEnrolment => exact execEndOfEnrolment_inFrame s
  | busIdle => exact ⟨_, rfl, settled.congr_ctl (goIdle_ctl _)⟩
  | beginAttempt => exact ⟨_, rfl, settled.congr_ctl (begin_ctl _)⟩
  | arbitrationLost line => exact ⟨_, rfl, settled.congr_ctl (loseArbitration_ctl _ _)⟩
  | readBackFailure => exact ⟨_, rfl, settled.congr_ctl (failAttempt_ctl _)⟩
  | attemptComplete => exact ⟨_, rfl, settled.congr_ctl (completeAttempt_ctl _)⟩
  | receiveGarbledNote reception => exact ⟨_, rfl, settled.trans (takeReception_stationFrame _ _)⟩
  | receiveEnrol note => exact ⟨_, rfl, settled.trans (takeNote_stationFrame _ _)⟩
  | receiveBeacon note => exact ⟨_, rfl, settled.trans (takeNote_stationFrame _ _)⟩
  | receiveAccuse note => exact ⟨_, rfl, settled.trans (takeNote_stationFrame _ _)⟩
  | receiveRebut note => exact ⟨_, rfl, settled.trans (takeNote_stationFrame _ _)⟩
  | readStatus => exact ⟨_, rfl, (finishWorks_stationFrame s).trans (.ite_self (.of_ctl_eq rfl))⟩
  | flagsByteClocked => exact execFlagsByteClocked_inFrame s
  | readView slot => exact ⟨_, rfl, (finishForView_stationFrame s).trans (.ite_self (.of_ctl_eq rfl))⟩
  | takeNotice => exact execTakeNotice_inFrame s
  | noticeRemoved => exact ⟨_, rfl, settled.trans (.ite_self (.of_ctl_eq rfl))⟩
  | release slot => exact ⟨_, rfl, settled.trans (.ite_self (takeRelease_stationFrame _ _))⟩
  | restart => exact ⟨_, rfl, settled.trans (.ite_self (.of_ctl_eq rfl))⟩
  | unknownCommand command => exact ⟨_, rfl, settled.trans (.ite_self (.of_ctl_eq rfl))⟩
  | commandAborted => exact ⟨_, rfl, settled.trans (.ite_self (.of_ctl_eq rfl))⟩

/-! ### The commands that the frame does not cover -/

/-- CONFIGURE of a configured station is refused or cut short, and answers within the frame (R149). -/
theorem execConfigure_inFrame (record : List Byte) (s : State) (h : s.ctl.station ≠ .unconfigured) :
    AnswersInFrame (execConfigure record s) s := by
  have settled := settle_stationFrame s
  have refused : StationFrame s.settle (s.settle.takeConfigure (record.take 34)) := by
    rw [State.takeConfigure, if_pos (settled.ne_unconfigured h)]
    exact .of_ctl_eq rfl
  exact ⟨_, rfl, settled.trans (.ite (fun _ => .refl _) fun _ => .ite (fun _ => .of_ctl_eq rfl) fun _ => refused)⟩

/-- The sampling of the straps leaves the configuration record. -/
theorem sampleStraps_config (slotStrap : BitVec 5) (roleStrap : BitVec 2) (s : State) :
    (s.sampleStraps slotStrap roleStrap).ctl.config = s.ctl.config := by
  unfold State.sampleStraps; dsimp only; split <;> simp

/-- A clock fault mutes a live station, and renames the reason of a muted one. -/
theorem faultState_config (c : ConfigRecord) (s : State) : (s.faultState c).ctl.config = s.ctl.config := by
  unfold State.faultState
  cases h : s.ctl.station with
  | enrolling => exact (enterMute_stationFrame c _ s (by rw [h]; rfl)).config
  | running => exact (enterMute_stationFrame c _ s (by rw [h]; rfl)).config
  | quarantined => exact (enterMute_stationFrame c _ s (by rw [h]; rfl)).config
  | mute r => simp
  | unconfigured => rfl

theorem execClockFault_config (s : State) : ∃ t, execClockFault s = .next t ∧ t.ctl.config = s.ctl.config := by
  refine ⟨_, rfl, Eq.trans ?_ (settle_stationFrame s).config⟩
  split
  · split
    · exact faultState_config _ _
    · rfl
  · rfl

/-- From CONFIGURE on no command but a reset changes the configuration record (R149). -/
theorem exec_config (i : Instr) (s t : State) (h : exec i s = .next t) (reset : Safety.isReset i = false)
    (configured : s.ctl.station ≠ .unconfigured) : t.ctl.config = s.ctl.config := by
  have answer : ∃ u, exec i s = .next u ∧ u.ctl.config = s.ctl.config := by
    by_cases hi : changesController i = false
    · obtain ⟨u, hu, frame⟩ := exec_inFrame i s hi
      exact ⟨u, hu, frame.config⟩
    · cases i with
      | configure record =>
        obtain ⟨u, hu, frame⟩ := execConfigure_inFrame record s configured
        exact ⟨u, hu, frame.config⟩
      | leaveReset slotStrap roleStrap =>
        refine ⟨_, rfl, ?_⟩
        split
        · exact sampleStraps_config slotStrap roleStrap s
        · rfl
      | clockFault => exact execClockFault_config s
      | powerOnReset => cases reset
      | resetNLow => cases reset
      | restartWarmReset => cases reset
      | _ => exact absurd rfl hi
  obtain ⟨u, hu, kept⟩ := answer
  obtain rfl : u = t := by simpa using hu.symm.trans h
  exact kept

end Sys2Proof.Machine
end

section
/-! Zone keys and correlation (R37). -/

namespace Sys2Proof.Machine

/-- A mask other than 0 keeps the slot number's bits where it is set and clears the others. -/
theorem testBit_zoneKey (mask : BitVec 5) (slot : Nat) (h : mask ≠ 0) (i : Nat) :
    (zoneKey mask slot).testBit i = (slot.testBit i && mask.getLsbD i) := by
  rw [zoneKey, if_neg h, BitVec.testBit_toNat, BitVec.getLsbD_and, BitVec.getLsbD_ofNat]
  by_cases hi : i < 5
  · simp [hi]
  · simp [BitVec.getLsbD_of_ge mask i (by omega)]

theorem zoneKey_zero (slot : Nat) : zoneKey 0 slot = slot := if_pos rfl

theorem correlated_iff (c : ConfigRecord) (w a : Nat) :
    correlated c w a = true ↔ w ≠ a ∧ zoneKey c.zoneMask w = zoneKey c.zoneMask a := by
  rw [correlated, Bool.and_eq_true, decide_eq_true_iff, decide_eq_true_iff]

theorem not_correlated_self (c : ConfigRecord) (w : Nat) : correlated c w w = false :=
  Bool.eq_false_iff.mpr fun h => ((correlated_iff c w w).mp h).1 rfl

/-- Settles O16: the keys bit by bit, and the mask's record from the frame of every command. -/
theorem zoneKeysAndCorrelation : Obligations.ZoneKeysAndCorrelation :=
  ⟨fun mask slot h _ => testBit_zoneKey mask slot h, zoneKey_zero, correlated_iff, not_correlated_self,
    fun i s t _ step reset stored configured => (exec_config i s t step reset configured).trans stored⟩

end Sys2Proof.Machine
end

section
/-! The note check (R110). A bit that differs from the register's top bit brings in the generator, whose lowest bit is set, so the
register can only reach 0 by shifting itself out: the bits run on have to be its own. -/

namespace Sys2Proof.Machine

/-! ### The register -/

/-- The bits of a byte, most significant first. -/
def bitsOf (b : Byte) : List Bool := (List.range 8).map fun i => b.getLsbD (7 - i)

theorem length_bitsOf (b : Byte) : (bitsOf b).length = 8 := rfl

theorem getD_bitsOf (b : Byte) {i : Nat} (hi : i < 8) : (bitsOf b).getD i false = b.getLsbD (7 - i) := by
  simp [bitsOf, List.getD_eq_getElem?_getD, hi]

theorem crcByte_eq_foldl (reg : Half) (b : Byte) : crcByte reg b = (bitsOf b).foldl crcBit reg := rfl

theorem crc16_append (bytes rest : List Byte) : crc16 (bytes ++ rest) = rest.foldl crcByte (crc16 bytes) := List.foldl_append

theorem crcBit_eq_ite (reg : Half) (bit : Bool) :
    crcBit reg bit = if reg.getLsbD 15 = bit then reg <<< 1 else (reg <<< 1) ^^^ 0x1021 := by
  simp [crcBit, BitVec.msb_eq_getLsbD_last]

theorem crcBit_of_eq {reg : Half} {bit : Bool} (h : reg.getLsbD 15 = bit) : crcBit reg bit = reg <<< 1 := by
  rw [crcBit_eq_ite, if_pos h]

/-- The generator's lowest bit marks a bit that differed. -/
theorem getLsbD_zero_crcBit (reg : Half) (bit : Bool) : (crcBit reg bit).getLsbD 0 = false ↔ reg.getLsbD 15 = bit := by
  rw [crcBit_eq_ite]
  split_ifs with h
  · exact iff_of_true (by simp) h
  · exact iff_of_false (by simp) h

/-- The register run on over at most 16 bits ends at 0 exactly where it began as those bits, with 0s after them. -/
theorem foldl_crcBit_eq_zero_iff (bits : List Bool) (hl : bits.length ≤ 16) (reg : Half) :
    bits.foldl crcBit reg = 0 ↔ ∀ i < 16, reg.getLsbD (15 - i) = bits.getD i false := by
  induction bits generalizing reg with
  | nil =>
    constructor
    · rintro rfl i -
      simp
    · intro h
      refine BitVec.eq_of_getLsbD_eq fun i hi => ?_
      simpa [show 15 - (15 - i) = i by omega] using h (15 - i) (by omega)
  | cons bit bits ih =>
    rw [List.length_cons] at hl
    have last : bits.getD 15 false = false := List.getD_eq_default bits false (by omega)
    have shift : ∀ i < 15, (reg <<< 1).getLsbD (15 - i) = reg.getLsbD (15 - (i + 1)) := fun i hi => by
      rw [BitVec.getLsbD_shiftLeft, show 15 - i - 1 = 15 - (i + 1) by omega]
      simp; omega
    rw [List.foldl_cons, ih (by omega), Nat.forall_lt_succ_right (n := 15), Nat.forall_lt_succ_left (n := 15), last, Nat.sub_self,
      getLsbD_zero_crcBit, and_comm]
    refine and_congr_right fun (top : reg.getLsbD 15 = bit) => ?_
    rw [crcBit_of_eq top]
    exact forall₂_congr fun i hi => by rw [shift i hi, List.getD_cons_succ]

/-- Run on over two bytes, the register ends at 0 exactly where it began as those bytes. -/
theorem crcByte_crcByte_eq_zero_iff (reg : Half) (high low : Byte) :
    crcByte (crcByte reg high) low = 0 ↔ (high ++ low : Half) = reg := by
  have bits : ∀ i < 16, (bitsOf high ++ bitsOf low).getD i false = (high ++ low : Half).getLsbD (15 - i) := fun i hi => by
    rw [BitVec.getLsbD_append]
    by_cases h : i < 8
    · rw [List.getD_append _ _ _ _ (by rwa [length_bitsOf]), getD_bitsOf high h, if_neg (by omega), show 15 - i - 8 = 7 - i by omega]
    · rw [List.getD_append_right _ _ _ _ (by rw [length_bitsOf]; omega), length_bitsOf, getD_bitsOf low (by omega), if_pos (by omega),
        show 15 - i = 7 - (i - 8) by omega]
  rw [crcByte_eq_foldl, crcByte_eq_foldl, ← List.foldl_append,
    foldl_crcBit_eq_zero_iff _ (by rw [List.length_append, length_bitsOf, length_bitsOf])]
  constructor
  · intro h
    refine BitVec.eq_of_getLsbD_eq fun i hi => ?_
    have at_i := h (15 - i) (by omega)
    rw [bits _ (by omega), show 15 - (15 - i) = i by omega] at at_i
    exact at_i.symm
  · rintro rfl i hi
    exact (bits i hi).symm

/-! ### The length of a note -/

theorem length_noteBytes_enrol (e : EnrolNote) : (noteBytes (.enrol e)).length = 14 := rfl

theorem length_noteBytes_beacon (b : BeaconNote) : (noteBytes (.beacon b)).length = 16 + b.condemned.length := by
  simp [noteBytes, bodyBytes, headerBytes, halfBytes, wordBytes]; omega

theorem length_noteBytes_accuse (a : AccuseNote) : (noteBytes (.accuse a)).length = 11 + 2 * a.tags.length := by
  simp [noteBytes, bodyBytes, headerBytes, halfBytes, List.length_flatMap]; omega

theorem length_noteBytes_rebut (r : RebutNote) : (noteBytes (.rebut r)).length = 11 := rfl

theorem byteAt_take (bytes : List Byte) {i k : Nat} (h : i < k) : byteAt (bytes.take k) i = byteAt bytes i := by
  simp [byteAt, List.getD_eq_getElem?_getD, List.getElem?_take_of_lt h]

theorem eleven_le_noteLength {bytes : List Byte} {k : Nat} (h : noteLength bytes = some k) : 11 ≤ k := by
  unfold noteLength at h
  split_ifs at h <;> cases h <;> omega

/-- The kind code gives the kind of the note spelled, and the count field the length of its list. -/
theorem parseNote_cases {bytes : List Byte} {n : Note} (h : parseNote bytes = some n) :
    (byteAt bytes 1 = 1 ∧ ∃ e, n = .enrol e) ∨
    (byteAt bytes 1 = 2 ∧ ∃ b, n = .beacon b ∧ b.condemned = (bytes.drop 14).take (byteAt bytes 13).toNat) ∨
    (byteAt bytes 1 = 3 ∧ ∃ a, n = .accuse a ∧ a.tags.length = (byteAt bytes 7).toNat) ∨
    (byteAt bytes 1 = 4 ∧ ∃ r, n = .rebut r) := by
  unfold parseNote at h
  split_ifs at h with enrol _ beacon _ accuse _ rebut _ <;> split at h <;> cases h
  · exact .inl ⟨enrol, _, rfl⟩
  · exact .inr (.inl ⟨beacon, _, rfl, rfl⟩)
  · exact .inr (.inr (.inl ⟨accuse, _, rfl, by simp⟩))
  · exact .inr (.inr (.inr ⟨rebut, _, rfl⟩))

/-- The note spelled by as many bytes as its kind and counts call for is written in as many. -/
theorem length_noteBytes_of_parseNote_take {bytes : List Byte} {n : Note} {k : Nat} (hk : noteLength bytes = some k)
    (hle : k ≤ bytes.length) (hn : parseNote (bytes.take k) = some n) : (noteBytes n).length = k := by
  have kind : byteAt (bytes.take k) 1 = byteAt bytes 1 := byteAt_take bytes (by have := eleven_le_noteLength hk; omega)
  have spelled := parseNote_cases hn
  rw [kind] at spelled
  obtain ⟨code, e, rfl⟩ | ⟨code, b, rfl, list⟩ | ⟨code, a, rfl, count⟩ | ⟨code, r, rfl⟩ := spelled
  · have : k = 14 := by simp [noteLength, code] at hk; omega
    rw [length_noteBytes_enrol, this]
  · have : k = 16 + (byteAt bytes 13).toNat := by simp [noteLength, code] at hk; omega
    rw [length_noteBytes_beacon, list, byteAt_take bytes (by omega), List.length_take, List.length_drop, List.length_take]
    omega
  · have : k = 11 + 2 * (byteAt bytes 7).toNat := by simp [noteLength, code] at hk; omega
    rw [length_noteBytes_accuse, count, byteAt_take bytes (by omega), this]
  · have : k = 11 := by simp [noteLength, code] at hk; omega
    rw [length_noteBytes_rebut, this]

/-! ### Taking a note -/

/-- What the receiver takes spells the note over its length, with its check in the last two bytes of it. -/
theorem judge_eq_some_iff (bytes : List Byte) (n : Note) :
    judge bytes = some n ↔ ∃ k, noteLength bytes = some k ∧ k ≤ bytes.length ∧
      crc16 (bytes.take (k - 2)) = halfAt bytes (k - 2) ∧ parseNote (bytes.take k) = some n := by
  unfold judge
  cases noteLength bytes with
  | none => simp
  | some k => simp [and_assoc]

/-- A list with two bytes from an offset on is the bytes before them, the two and the rest. -/
theorem eq_take_append_byteAt (bytes : List Byte) {k : Nat} (h : k + 2 ≤ bytes.length) :
    bytes = bytes.take k ++ byteAt bytes k :: byteAt bytes (k + 1) :: bytes.drop (k + 2) := by
  have at_k : byteAt bytes k = bytes[k] := List.getD_eq_getElem bytes 0 (by omega)
  have at_next : byteAt bytes (k + 1) = bytes[k + 1] := List.getD_eq_getElem bytes 0 (by omega)
  rw [at_k, at_next, List.getElem_cons_drop, List.getElem_cons_drop, List.take_append_drop]

theorem check_of_judge {bytes : List Byte} {n : Note} (h : judge bytes = some n) :
    ∃ (body rest : List Byte) (high low : Byte), bytes = body ++ high :: low :: rest ∧ body.length + 2 = (noteBytes n).length ∧
      (high ++ low : Half) = crc16 body := by
  obtain ⟨k, hk, hle, check, hn⟩ := (judge_eq_some_iff bytes n).mp h
  have long : 11 ≤ k := eleven_le_noteLength hk
  have written : (noteBytes n).length = k := length_noteBytes_of_parseNote_take hk hle hn
  refine ⟨_, _, _, _, eq_take_append_byteAt bytes (k := k - 2) (by omega), ?_, check.symm⟩
  rw [written, List.length_take]
  omega

/-- Settles O34: the register bit by bit, the check bytes by the register that they bring to 0, and a taken note by its judgement. -/
theorem noteCheckIsTheCrc : Obligations.NoteCheckIsTheCrc := by
  refine ⟨by decide +kernel, rfl, fun bytes b => ?_, fun bytes high low => ?_, fun n => ⟨bodyBytes n, rfl⟩, fun _ _ => check_of_judge⟩
  · rw [crc16_append]
    exact congrArg (fun bit => (bitsOf b).foldl bit (crc16 bytes)) (funext₂ crcBit_eq_ite)
  · rw [crc16_append]
    exact crcByte_crcByte_eq_zero_iff (crc16 bytes) high low

end Sys2Proof.Machine
end

section
/-! Clamping of the configuration record (R147): what is held within a stored range, the stored fields against the bytes as written, the
shelf-wide bytes of a record that needed no clamping, and what CONFIGURE leaves of the link and the stored record. -/

namespace Sys2Proof.Machine

/-! ### Values held within a range -/

/-- The value stored for a written one in a range: the nearer bound for one outside it, the written value itself within it. -/
def HeldWithin (low high written stored : Nat) : Prop :=
  (written < low → stored = low) ∧ (high < written → stored = high) ∧ (low ≤ written → written ≤ high → stored = written)

theorem heldWithin_clamp {low high : Nat} (h : low ≤ high) (x : Nat) : HeldWithin low high x (clamp low high x) := by
  unfold HeldWithin clamp; omega

theorem heldWithin_min (high x : Nat) : HeldWithin 0 high x (min high x) := by
  unfold HeldWithin; omega

theorem heldWithin_min_comm (high x : Nat) : HeldWithin 0 high x (min x high) := min_comm high x ▸ heldWithin_min high x

theorem heldWithin_max_byte (low : Nat) (b : Byte) : HeldWithin low 255 b.toNat (max low b.toNat) := by
  have := b.isLt
  unfold HeldWithin; omega

theorem clamp_of_le {low high x : Nat} (hl : low ≤ x) (hh : x ≤ high) : clamp low high x = x := by
  unfold clamp; omega

/-! ### Bytes and two-byte fields -/

/-- A two-byte field is written most significant byte first (Table 11-8). -/
theorem toNat_halfAt (r : List Byte) (i : Nat) : (halfAt r i).toNat = 256 * (byteAt r i).toNat + (byteAt r (i + 1)).toNat := by
  rw [halfAt, BitVec.toNat_append, ← Nat.shiftLeft_add_eq_or_of_lt (byteAt r (i + 1)).isLt, Nat.shiftLeft_eq, Nat.mul_comm]

theorem heldWithin_min_halfAt (high : Nat) (r : List Byte) (i : Nat) :
    HeldWithin 0 high (256 * (byteAt r i).toNat + (byteAt r (i + 1)).toNat) (min high (halfAt r i).toNat) :=
  toNat_halfAt r i ▸ heldWithin_min high _

theorem byteOf_toNat (b : Byte) : byteOf b.toNat = b := by simp [byteOf]

theorem numBytes_toNat (h : Half) : numBytes h.toNat = halfBytes h := by simp [numBytes]

theorem halfBytes_halfAt (r : List Byte) (i : Nat) : halfBytes (halfAt r i) = [byteAt r i, byteAt r (i + 1)] := by
  rw [halfBytes, halfAt, BitVec.extractLsb'_append_eq_left, BitVec.extractLsb'_append_eq_right]

theorem take_eq_map_byteAt (r : List Byte) {k : Nat} (h : k ≤ r.length) : r.take k = (List.range k).map (byteAt r) := by
  refine List.ext_getElem (by simpa using h) fun i hi _ => ?_
  rw [List.getElem_take, List.getElem_map, List.getElem_range, byteAt, List.getD_eq_getElem]

/-! ### The stored fields -/

theorem toNat_zoneMask_configOf (r : List Byte) : (configOf r).zoneMask.toNat = min 31 (byteAt r 3).toNat :=
  Nat.mod_eq_of_lt (by omega)

theorem getLsbD_sampleMatch_configOf (r : List Byte) (i : Nat) :
    (configOf r).sampleMatch.getLsbD i = ((halfAt r 27).toNat.testBit i && (halfAt r 25).toNat.testBit i) := BitVec.getLsbD_and

theorem heldWithin_timeouts_configOf (r : List Byte) (k : Nat) (hk : k < 4) :
    HeldWithin 0 12 (byteAt r (21 + k)).toNat ((configOf r).timeouts.getD k 0) := by
  match k, hk with
  | 0, _ | 1, _ | 2, _ | 3, _ => exact heldWithin_min 12 _

/-! ### A record that needs no clamping -/

/-- Each shelf-wide field that has a stored range is written within it, and the sample match within the base sample mask (Table 9-2). The
bounds that a byte meets by its width are left out. -/
structure WithinRanges (r : List Byte) : Prop where
  epochCode : (byteAt r 0).toNat ≤ 4
  decay : 2 ≤ (byteAt r 1).toNat ∧ (byteAt r 1).toNat ≤ 6
  quorum : 1 ≤ (byteAt r 2).toNat ∧ (byteAt r 2).toNat ≤ 4
  zoneMask : (byteAt r 3).toNat ≤ 31
  tClear : (halfAt r 4).toNat ≤ 4095
  tWatch : (halfAt r 6).toNat ≤ 4095
  tSuspect : (halfAt r 8).toNat ≤ 4095
  tCondemn : (halfAt r 10).toNat ≤ 4095
  wMiss : 1 ≤ (byteAt r 12).toNat
  wCorrupt : 1 ≤ (byteAt r 13).toNat
  wRebut : 1 ≤ (byteAt r 14).toNat
  wBabble : 1 ≤ (byteAt r 15).toNat
  expiry : 1 ≤ (byteAt r 16).toNat ∧ (byteAt r 16).toNat ≤ 15
  lapse : 2 ≤ (byteAt r 17).toNat ∧ (byteAt r 17).toNat ≤ 15
  probation : 1 ≤ (byteAt r 18).toNat
  budget : 1 ≤ (byteAt r 19).toNat ∧ (byteAt r 19).toNat ≤ 32
  babble : 4 ≤ (byteAt r 20).toNat
  timeout0 : (byteAt r 21).toNat ≤ 12
  timeout1 : (byteAt r 22).toNat ≤ 12
  timeout2 : (byteAt r 23).toNat ≤ 12
  timeout3 : (byteAt r 24).toNat ≤ 12
  sampleMatch : (configOf r).sampleMatch.toNat = (halfAt r 27).toNat

theorem shelfBytes_configOf_of_withinRanges {r : List Byte} (w : WithinRanges r) (h : 31 ≤ r.length) :
    shelfBytes (configOf r) = r.take 31 := by
  have sample : halfAt r 27 &&& halfAt r 25 = halfAt r 27 := BitVec.eq_of_toNat_eq w.sampleMatch
  rw [take_eq_map_byteAt r h, shelfBytes, toNat_zoneMask_configOf]
  simp only [configOf, timeoutCode, List.getD_cons_zero, List.getD_cons_succ, sample, min_eq_right w.epochCode,
    clamp_of_le w.decay.1 w.decay.2, clamp_of_le w.quorum.1 w.quorum.2, min_eq_right w.zoneMask, min_eq_right w.tClear,
    min_eq_right w.tWatch, min_eq_right w.tSuspect, min_eq_right w.tCondemn, max_eq_right w.wMiss, max_eq_right w.wCorrupt,
    max_eq_right w.wRebut, max_eq_right w.wBabble, clamp_of_le w.expiry.1 w.expiry.2, clamp_of_le w.lapse.1 w.lapse.2,
    max_eq_right w.probation, clamp_of_le w.budget.1 w.budget.2, max_eq_right w.babble, min_eq_right w.timeout0,
    min_eq_right w.timeout1, min_eq_right w.timeout2, min_eq_right w.timeout3, byteOf_toNat, numBytes_toNat, halfBytes_halfAt]
  rfl

/-! ### CONFIGURE -/

theorem enqueue_lnk (n : Content) (s : State) : (s.enqueue n).lnk = s.lnk := by
  obtain ⟨_, _, e⟩ | ⟨_, e⟩ := enqueue_cases s n <;> simp [e]

theorem queueEnrol_lnk (s : State) : s.queueEnrol.lnk = s.lnk := enqueue_lnk _ s

/-- What CONFIGURE keeps on the link, and the clamped record with its digest as the only one it may store. -/
structure ConfigureEffect (c : ConfigRecord) (s t : State) : Prop where
  notices : t.lnk.notices = s.lnk.notices
  flags : t.lnk.flags = s.lnk.flags
  stored : t.ctl.config = s.ctl.config ∨ (t.ctl.config = some c ∧ t.ctl.digest = some (digestOf c))

theorem respond_configureEffect (c : ConfigRecord) (b : Byte) (l : List Byte) (s : State) : ConfigureEffect c s (s.respond b l) :=
  ⟨rfl, rfl, .inl rfl⟩

theorem acceptConfig_configureEffect (c : ConfigRecord) (b : Byte) (l : List Byte) (s : State) :
    ConfigureEffect c s ((s.acceptConfig c).respond b l) := by
  refine ⟨?_, ?_, .inr ⟨?_, ?_⟩⟩ <;> simp [State.acceptConfig, queueEnrol_lnk]

theorem takeConfigure_configureEffect (r : List Byte) (s : State) : ConfigureEffect (configOf r) s (s.takeConfigure r) := by
  unfold State.takeConfigure
  split_ifs
  · exact respond_configureEffect ..
  · exact respond_configureEffect ..
  · exact respond_configureEffect ..
  · exact acceptConfig_configureEffect ..

/-- CONFIGURE is ignored, cut short or taken with the first 34 bytes (R158, R159). -/
theorem execConfigure_configureEffect (r : List Byte) {s t : State} (quiet : Safety.Quiet s) (h : execConfigure r s = .next t) :
    ConfigureEffect (configOf (r.take 34)) s t := by
  rw [execConfigure, settle_of_quiet s quiet] at h
  injection h with h
  subst h
  split_ifs
  · exact ⟨rfl, rfl, .inl rfl⟩
  · exact ⟨rfl, rfl, .inl rfl⟩
  · exact takeConfigure_configureEffect (r.take 34) s

theorem configure_keeps_link_stores_clamped (r : List Byte) (s t : State) (quiet : Safety.Quiet s)
    (h : exec (.configure r) s = .next t) :
    t.lnk.notices = s.lnk.notices ∧ t.lnk.flags = s.lnk.flags ∧
      (t.ctl.config = s.ctl.config ∨
        (t.ctl.config = some (configOf (r.take 34)) ∧ t.ctl.digest = some (crc16 (shelfBytes (configOf (r.take 34)))))) := by
  obtain ⟨notices, flags, stored⟩ := execConfigure_configureEffect r quiet h
  exact ⟨notices, flags, stored⟩

/-- Settles O45: each stored field by the way its range holds it, the shelf-wide bytes of a record within its ranges, and the effect of
CONFIGURE by its outcomes. -/
theorem configurationIsClamped : Obligations.ConfigurationIsClamped := by
  refine ⟨fun r length => ?_, configure_keeps_link_stores_clamped⟩
  have byte (low i : Nat) := heldWithin_max_byte low (byteAt r i)
  have range (low high : Nat) (h : low ≤ high) (i : Nat) := heldWithin_clamp h (byteAt r i).toNat
  refine ⟨heldWithin_min 4 _, range 2 6 (by decide) 1, range 1 4 (by decide) 2, toNat_zoneMask_configOf r ▸ heldWithin_min 31 _,
    heldWithin_min_halfAt 4095 r 4, heldWithin_min_halfAt 4095 r 6, heldWithin_min_halfAt 4095 r 8, heldWithin_min_halfAt 4095 r 10,
    byte 1 12, byte 1 13, byte 1 14, byte 1 15,
    range 1 15 (by decide) 16, range 2 15 (by decide) 17, byte 1 18, range 1 32 (by decide) 19, byte 4 20,
    rfl, heldWithin_timeouts_configOf r, toNat_halfAt r 25, fun i _ => ?_, toNat_halfAt r 29, fun h => if_pos h, fun h => if_neg h,
    range 16 64 (by decide) 32, heldWithin_min_comm _ _, ?_⟩
  · rw [getLsbD_sampleMatch_configOf, toNat_halfAt, toNat_halfAt]; rfl
  · intro e d d' q q' z a1 a2 a3 a4 w1 w2 w3 w4 x x' l l' p b b' y t0 t1 t2 t3 m
    refine shelfBytes_configOf_of_withinRanges
      ⟨e, ⟨d, d'⟩, ⟨q, q'⟩, z, ?_, ?_, ?_, ?_, w1, w2, w3, w4, ⟨x, x'⟩, ⟨l, l'⟩, p, ⟨b, b'⟩, y, t0, t1, t2, t3, ?_⟩ (by omega)
    all_goals rw [toNat_halfAt]; assumption

end Sys2Proof.Machine
end

section
/-! Witness sets (R41, R45): what the update of a set holds, in what order, and how many independent zones a set counts. -/

namespace Sys2Proof.Machine

/-! ### Inserting an entry by its slot -/

@[simp] theorem mem_insertWitness {v w : Witness} {ws : List Witness} : v ∈ insertWitness w ws ↔ v = w ∨ v ∈ ws := by
  induction ws with
  | nil => simp [insertWitness]
  | cons u rest ih =>
    rw [insertWitness]
    split
    · simp
    · rw [List.mem_cons, ih, List.mem_cons]; exact or_left_comm

@[simp] theorem length_insertWitness (w : Witness) (ws : List Witness) : (insertWitness w ws).length = ws.length + 1 := by
  induction ws with
  | nil => rfl
  | cons u rest ih => rw [insertWitness]; split <;> simp [ih]

/-- Ordered by slot, no two entries of one slot. -/
abbrev OrderedBySlot (ws : List Witness) : Prop := ws.Pairwise fun v u => v.slot < u.slot

theorem orderedBySlot_insertWitness {w : Witness} {ws : List Witness} (h : OrderedBySlot ws) (new : ∀ v ∈ ws, v.slot ≠ w.slot) :
    OrderedBySlot (insertWitness w ws) := by
  induction ws with
  | nil => simp [insertWitness]
  | cons u rest ih =>
    obtain ⟨below, ordered⟩ := List.pairwise_cons.1 h
    have other : u.slot ≠ w.slot := new u (by simp)
    rw [insertWitness]
    split
    · rename_i first
      refine List.pairwise_cons.2 ⟨fun v hv => ?_, h⟩
      obtain rfl | hv := List.mem_cons.1 hv
      · exact first
      · exact first.trans (below v hv)
    · refine List.pairwise_cons.2 ⟨fun v hv => ?_, ih ordered fun v hv => new v (by simp [hv])⟩
      obtain rfl | hv := mem_insertWitness.1 hv
      · omega
      · exact below v hv

/-! ### The entry with the oldest last application -/

/-- The oldest entry is one of the set, none is older, and none of the same age has a lower slot. -/
theorem oldestWitness_spec (now : Half) {ws : List Witness} {o : Witness} (h : OrderedBySlot ws) (ho : oldestWitness now ws = some o) :
    o ∈ ws ∧ ∀ v ∈ ws, epochsSince now v.epoch < epochsSince now o.epoch ∨
      (epochsSince now v.epoch = epochsSince now o.epoch ∧ o.slot ≤ v.slot) := by
  induction ws generalizing o with
  | nil => cases ho
  | cons u rest ih =>
    obtain ⟨below, ordered⟩ := List.pairwise_cons.1 h
    rw [oldestWitness] at ho
    cases hrest : oldestWitness now rest with
    | none =>
      obtain rfl : rest = [] := by
        cases rest with
        | nil => rfl
        | cons a b => rw [oldestWitness] at hrest; split at hrest <;> [split at hrest; skip] <;> cases hrest
      rw [hrest] at ho
      cases ho
      simp
    | some w =>
      obtain ⟨mem, oldest⟩ := ih ordered hrest
      simp only [hrest, olderThan, decide_eq_true_eq] at ho
      split at ho <;> cases ho
      · refine ⟨by simp [mem], fun v hv => ?_⟩
        obtain rfl | hv := List.mem_cons.1 hv
        · exact .inl ‹_›
        · exact oldest v hv
      · refine ⟨by simp, fun v hv => ?_⟩
        obtain rfl | hv := List.mem_cons.1 hv
        · exact .inr ⟨rfl, le_rfl⟩
        · have := below v hv
          have := oldest v hv
          omega

theorem oldestWitness_isSome (now : Half) {ws : List Witness} (h : ws ≠ []) : ∃ o, oldestWitness now ws = some o := by
  cases ws with
  | nil => exact absurd rfl h
  | cons u rest =>
    rw [oldestWitness]
    cases oldestWitness now rest with
    | none => exact ⟨u, rfl⟩
    | some w => dsimp only; split <;> exact ⟨_, rfl⟩

/-! ### The witness update -/

/-- Everything an update can do: refresh the witness's entry, add one, or put one in the place of the oldest. -/
theorem witnessUpdate_cases (now : Half) (slot key : Nat) (ws : List Witness) :
    ((∃ v ∈ ws, v.slot = slot) ∧
      witnessUpdate now slot key ws = ws.map fun v => if v.slot = slot then { v with epoch := now } else v) ∨
    ((∀ v ∈ ws, v.slot ≠ slot) ∧ ws.length < 8 ∧
      witnessUpdate now slot key ws = insertWitness { slot := slot, key := key, epoch := now } ws) ∨
    ((∀ v ∈ ws, v.slot ≠ slot) ∧ 8 ≤ ws.length ∧ ∃ o, oldestWitness now ws = some o ∧
      witnessUpdate now slot key ws =
        insertWitness { slot := slot, key := key, epoch := now } (ws.filter fun v => decide (v.slot ≠ o.slot))) := by
  by_cases held : ∃ v ∈ ws, v.slot = slot
  · exact .inl ⟨held, if_pos (by simpa using held)⟩
  · have new : ∀ v ∈ ws, v.slot ≠ slot := by simpa using held
    have skip : witnessUpdate now slot key ws =
        if ws.length < 8 then insertWitness { slot := slot, key := key, epoch := now } ws
        else match oldestWitness now ws with
          | some o => insertWitness { slot := slot, key := key, epoch := now } (ws.filter fun v => decide (v.slot ≠ o.slot))
          | none => [{ slot := slot, key := key, epoch := now }] := if_neg (by simpa using held)
    by_cases room : ws.length < 8
    · exact .inr (.inl ⟨new, room, by rw [skip, if_pos room]⟩)
    · obtain ⟨o, ho⟩ := oldestWitness_isSome now (ws := ws) (by rintro rfl; simp at room)
      exact .inr (.inr ⟨new, by omega, o, ho, by rw [skip, if_neg room, ho]⟩)

theorem slot_refreshed (now : Half) (slot : Nat) (v : Witness) : (if v.slot = slot then { v with epoch := now } else v).slot = v.slot := by
  split <;> rfl

/-- An entry is the only one of its slot. -/
theorem eq_of_slot_eq {ws : List Witness} (h : OrderedBySlot ws) {v o : Witness} (hv : v ∈ ws) (ho : o ∈ ws)
    (e : v.slot = o.slot) : v = o :=
  List.inj_on_of_nodup_map (List.pairwise_map.2 (h.imp fun lt => lt.ne)) hv ho e

theorem orderedBySlot_witnessUpdate (now : Half) (slot key : Nat) {ws : List Witness} (h : OrderedBySlot ws) :
    OrderedBySlot (witnessUpdate now slot key ws) := by
  obtain ⟨-, e⟩ | ⟨new, -, e⟩ | ⟨new, -, o, -, e⟩ := witnessUpdate_cases now slot key ws <;> rw [e]
  · exact List.pairwise_map.2 (h.imp fun lt => by rwa [slot_refreshed, slot_refreshed])
  · exact orderedBySlot_insertWitness h new
  · exact orderedBySlot_insertWitness (h.filter _) fun v hv => new v (List.mem_filter.1 hv).1

theorem length_witnessUpdate_le (now : Half) (slot key : Nat) {ws : List Witness} (h : OrderedBySlot ws) (bound : ws.length ≤ 8) :
    (witnessUpdate now slot key ws).length ≤ 8 := by
  obtain ⟨-, e⟩ | ⟨-, room, e⟩ | ⟨-, -, o, ho, e⟩ := witnessUpdate_cases now slot key ws <;> rw [e]
  · simpa using bound
  · simp; omega
  · have removed : (ws.filter fun v => decide (v.slot ≠ o.slot)).length < ws.length :=
      List.length_filter_lt_length_iff_exists.2 ⟨o, (oldestWitness_spec now h ho).1, by simp⟩
    rw [length_insertWitness]; omega

/-- Settles O15: the order and the bound of every update, and its members in each of its three cases. -/
theorem witnessIsRecorded : Obligations.WitnessIsRecorded := by
  intro now w key ws ordered bound
  refine ⟨orderedBySlot_witnessUpdate now w key ordered, length_witnessUpdate_le now w key ordered bound, fun held => ?_,
    fun new room v => ?_, fun new full => ?_⟩
  all_goals obtain ⟨held', e⟩ | ⟨new', room', e⟩ | ⟨new', full', o, ho, e⟩ := witnessUpdate_cases now w key ws
  · exact e
  · obtain ⟨v, hv, hw⟩ := held; exact absurd hw (new' v hv)
  · obtain ⟨v, hv, hw⟩ := held; exact absurd hw (new' v hv)
  · obtain ⟨v, hv, hw⟩ := held'; exact absurd hw (new v hv)
  · rw [e, mem_insertWitness, or_comm]
  · omega
  · obtain ⟨v, hv, hw⟩ := held'; exact absurd hw (new v hv)
  · omega
  · obtain ⟨mem, oldest⟩ := oldestWitness_spec now ordered ho
    refine ⟨o, mem, oldest, fun v => ?_⟩
    rw [e, mem_insertWitness, List.mem_filter, or_comm]
    refine or_congr_left (and_congr_right fun hv => ?_)
    rw [decide_eq_true_iff, not_iff_not]
    exact ⟨eq_of_slot_eq ordered hv mem, fun h => h ▸ rfl⟩

/-! ### Independent zones -/

theorem independentZones_eq_card (c : ConfigRecord) (a : Nat) (ws : List Witness) :
    independentZones c a ws =
      (((ws.filter fun w => decide (w.slot ≠ a ∧ w.key ≠ zoneKey c.zoneMask a)).map Witness.key).toFinset).card := by
  simp only [independentZones, List.card_toFinset, Bool.decide_and]

theorem independentZones_le_length (c : ConfigRecord) (a : Nat) (ws : List Witness) : independentZones c a ws ≤ ws.length :=
  calc independentZones c a ws
    _ ≤ ((ws.filter fun w => decide (w.slot ≠ a) && decide (w.key ≠ zoneKey c.zoneMask a)).map Witness.key).length :=
      (List.dedup_sublist _).length_le
    _ ≤ ws.length := by rw [List.length_map]; exact List.length_filter_le _ _

/-- With zone mask 0 each slot is a zone of its own. -/
theorem independentZones_of_mask_zero (c : ConfigRecord) (a : Nat) (ws : List Witness) (mask : c.zoneMask = 0) (ordered : OrderedBySlot ws)
    (keys : ∀ w ∈ ws, w.key = w.slot) : independentZones c a ws = (ws.filter fun w => decide (w.slot ≠ a)).length := by
  have same : (ws.filter fun w => decide (w.slot ≠ a) && decide (w.key ≠ zoneKey c.zoneMask a)) = ws.filter fun w => decide (w.slot ≠ a) :=
    List.filter_congr fun w hw => by rw [mask, zoneKey_zero, keys w hw, Bool.and_self]
  have distinct : ((ws.filter fun w => decide (w.slot ≠ a)).map Witness.key).Nodup :=
    List.pairwise_map.2 ((ordered.filter _).imp_of_mem fun hv hu lt => by
      rw [keys _ (List.mem_filter.1 hv).1, keys _ (List.mem_filter.1 hu).1]; exact lt.ne)
  rw [independentZones, same, distinct.dedup, List.length_map]

/-- Settles O17: the count as the number of distinct keys, its bound, and zone mask 0. -/
theorem independentZonesAreCounted : Obligations.IndependentZonesAreCounted := fun c a ws =>
  ⟨independentZones_eq_card c a ws, independentZones_le_length c a ws, independentZones_of_mask_zero c a ws⟩

end Sys2Proof.Machine
end

section
/-! The laws of the transmit buffer (R104, R117, R118, Table 7-1) as laws of a list of notes, and the changes of the list that keep them. -/

namespace Sys2Proof.Machine

open Sys2Proof.Safety

/-! ### The first note that a test picks -/

/-- The place of the first element that a test picks, by the elements before it. -/
theorem findIdx?_append_cons {α : Type} {p : α → Bool} {before after : List α} {n : α} (none_before : ∀ m ∈ before, p m = false)
    (found : p n = true) : (before ++ n :: after).findIdx? p = some before.length := by
  rw [List.findIdx?_append, List.findIdx?_eq_none_iff.2 none_before, List.findIdx?_cons, found]
  simp

theorem exists_split_of_findIdx? {α : Type} {p : α → Bool} {l : List α} {i : Nat} (h : l.findIdx? p = some i) :
    ∃ before n after, l = before ++ n :: after ∧ before.length = i ∧ p n = true ∧ ∀ m ∈ before, p m = false := by
  obtain ⟨hi, found, none_before⟩ := List.findIdx?_eq_some_iff_getElem.1 h
  refine ⟨l.take i, l[i], l.drop (i + 1), by simp, by simp; omega, found, fun m hm => ?_⟩
  obtain ⟨j, hj, rfl⟩ := List.mem_iff_getElem.1 hm
  rw [List.length_take] at hj
  rw [List.getElem_take]
  exact Bool.eq_false_iff.2 (none_before j (by omega))

theorem find?_append_cons {α : Type} {p : α → Bool} {before after : List α} {n : α} (none_before : ∀ m ∈ before, p m = false)
    (found : p n = true) : (before ++ n :: after).find? p = some n := by
  rw [List.find?_append, List.find?_eq_none.2 fun m hm => by simp [none_before m hm], List.find?_cons_of_pos found]; rfl

theorem eraseP_append_cons {α : Type} {p : α → Bool} {before after : List α} {n : α} (none_before : ∀ m ∈ before, p m = false)
    (found : p n = true) : (before ++ n :: after).eraseP p = before ++ after := by
  rw [List.eraseP_append_right _ fun m hm => by simp [none_before m hm], List.eraseP_cons_of_pos found]

@[simp] theorem getElem?_append_cons_length {α : Type} (before after : List α) (n : α) :
    (before ++ n :: after)[before.length]? = some n := by simp

@[simp] theorem set_append_cons_length {α : Type} (before after : List α) (n m : α) :
    (before ++ n :: after).set before.length m = before ++ m :: after := by simp

@[simp] theorem eraseIdx_append_cons_length {α : Type} (before after : List α) (n : α) :
    (before ++ n :: after).eraseIdx before.length = before ++ after := by
  rw [List.eraseIdx_append_of_length_le le_rfl]; simp

@[simp] theorem modify_append_cons_length {α : Type} (before after : List α) (n : α) (f : α → α) :
    (before ++ n :: after).modify before.length f = before ++ f n :: after := by
  rw [List.modify_eq_set_getElem?, getElem?_append_cons_length]; simp

/-! ### The laws of the list -/

/-- The laws of the buffer that speak of its notes alone. -/
structure BufferLaws (l : List TxNote) : Prop where
  pools : ∀ p, poolUse l p ≤ poolSize p
  begun : l.countP (fun n => decide (n.state ≠ .waiting)) ≤ 1
  notes : ∀ n ∈ l, noteSound n = true
  apart : l.Pairwise fun m n => mayWaitTogether m n = true

theorem poolUse_eq_countP (l : List TxNote) (p : Pool) : poolUse l p = l.countP fun n => decide (n.pool = p) :=
  List.countP_eq_length_filter.symm

theorem length_eq_poolUse (l : List TxNote) :
    l.length = poolUse l .beacon + poolUse l .rebut + poolUse l .accuse + poolUse l .shared := by
  simp only [poolUse_eq_countP]
  induction l with
  | nil => rfl
  | cons n l ih => cases h : n.pool <;> simp [h, ih] <;> omega

/-- BEACON and ENROL are held in the beacon slot (Table 7-1). -/
theorem pool_eq_beacon_of_noteSound {n : TxNote} (h : noteSound n = true)
    (kind : n.content.kind = .beacon ∨ n.content.kind = .enrol) : n.pool = .beacon := by
  obtain ⟨holds, -⟩ : poolHolds n.pool n.content.kind = true ∧ _ := by
    simpa only [noteSound, Bool.and_eq_true, and_assoc] using h
  cases hp : n.pool <;> obtain hk | hk := kind <;> rw [hp, hk] at holds <;> cases holds

/-- The buffer's laws, those of its notes apart from those that tie it to the station. -/
theorem bufferSound_iff (s : State) : BufferSound s ↔
    BufferLaws s.xmt.buffer ∧ (∀ c ∈ s.ctl.config, s.xmt.budget ≤ c.budget) ∧ (s.ctl.config = none → s.xmt.budget = 0) ∧
      (s.ctl.station = .unconfigured ∨ (∃ r, s.ctl.station = .mute r) → s.xmt.buffer = []) := by
  constructor
  · rintro ⟨-, ⟨beacon, rebut, accuse, shared⟩, -, begun, notes, apart, budget⟩
    exact ⟨⟨fun p => by cases p <;> assumption, List.countP_eq_length_filter.trans_le begun, notes, apart⟩, budget⟩
  · rintro ⟨⟨pools, begun, notes, apart⟩, budget⟩
    have beacon := pools .beacon
    have rebut := pools .rebut
    have accuse := pools .accuse
    have shared := pools .shared
    simp only [poolSize] at beacon rebut accuse shared
    refine ⟨by rw [length_eq_poolUse]; omega, ⟨beacon, rebut, accuse, shared⟩, ?_,
      List.countP_eq_length_filter.symm.trans_le begun, notes, apart, budget⟩
    refine (List.countP_eq_length_filter.symm.trans_le (List.countP_mono_left fun n hn kind => ?_)).trans
      ((poolUse_eq_countP _ .beacon).symm.trans_le beacon)
    simpa using pool_eq_beacon_of_noteSound (notes n hn) (by simpa using kind)

theorem mayWaitTogether_comm (m n : TxNote) : mayWaitTogether m n = mayWaitTogether n m := by
  unfold mayWaitTogether
  cases m.content <;> cases n.content <;> try rfl
  simp only [eq_comm, Bool.and_comm, Bool.and_left_comm]

theorem bufferLaws_nil : BufferLaws [] := ⟨fun p => Nat.zero_le _, Nat.zero_le _, by simp, by simp⟩

/-! ### Changes that keep the laws -/

/-- Notes may leave. -/
theorem BufferLaws.sublist {l m : List TxNote} (h : BufferLaws l) (hs : m.Sublist l) : BufferLaws m where
  pools p := by rw [poolUse_eq_countP]; exact hs.countP_le.trans ((poolUse_eq_countP l p).symm.trans_le (h.pools p))
  begun := hs.countP_le.trans h.begun
  notes n hn := h.notes n (hs.subset hn)
  apart := h.apart.sublist hs

/-- A note without the mark that forbids its retry, which no law speaks of. -/
def TxNote.unmarked (n : TxNote) : TxNote := { n with noRetry := false }

theorem bufferLaws_map_unmarked_iff (l : List TxNote) : BufferLaws (l.map TxNote.unmarked) ↔ BufferLaws l := by
  have pools (p : Pool) : poolUse (l.map TxNote.unmarked) p = poolUse l p := by
    rw [poolUse_eq_countP, poolUse_eq_countP, List.countP_map]; rfl
  have begun : (l.map TxNote.unmarked).countP (fun n => decide (n.state ≠ .waiting)) = l.countP fun n => decide (n.state ≠ .waiting) := by
    rw [List.countP_map]; rfl
  constructor
  · intro h
    exact ⟨fun p => pools p ▸ h.pools p, begun ▸ h.begun, fun n hn => h.notes n.unmarked (List.mem_map_of_mem hn), List.pairwise_map.1 h.apart⟩
  · intro h
    refine ⟨fun p => (pools p).trans_le (h.pools p), begun.trans_le h.begun, fun n hn => ?_, List.pairwise_map.2 h.apart⟩
    obtain ⟨m, hm, rfl⟩ := List.mem_map.1 hn
    exact h.notes m hm

/-- Notes may leave, and others be marked. -/
theorem BufferLaws.filterMap {l : List TxNote} (h : BufferLaws l) {f : TxNote → Option TxNote}
    (marks : ∀ m n, f m = some n → n.unmarked = m.unmarked) : BufferLaws (l.filterMap f) := by
  rw [← bufferLaws_map_unmarked_iff] at h ⊢
  refine h.sublist ?_
  induction l with
  | nil => simp
  | cons m l ih =>
    have ih := ih (h.sublist (by simp))
    cases hf : f m with
    | none => rw [List.filterMap_cons_none hf]; exact ih.cons _
    | some n => rw [List.filterMap_cons_some hf, List.map_cons, List.map_cons, marks m n hf]; exact ih.cons_cons _

theorem quarantineNote_unmarked (m n : TxNote) (h : quarantineNote m = some n) : n.unmarked = m.unmarked := by
  unfold quarantineNote at h
  split_ifs at h <;> cases h <;> rfl

theorem leaveEnrolNote_unmarked (m n : TxNote) (h : leaveEnrolNote m = some n) : n.unmarked = m.unmarked := by
  unfold leaveEnrolNote at h
  split_ifs at h <;> cases h <;> rfl

/-- One note may become another of its pool that stands beside every note that it stood beside; it may begin where none has begun. -/
theorem BufferLaws.replace {before after : List TxNote} {n m : TxNote} (h : BufferLaws (before ++ n :: after)) (pool : m.pool = n.pool)
    (sound : noteSound n = true → noteSound m = true)
    (beside : ∀ k, mayWaitTogether k n = true → mayWaitTogether k m = true)
    (begun : m.state ≠ .waiting → n.state ≠ .waiting ∨ ∀ k ∈ before ++ n :: after, k.state = .waiting) :
    BufferLaws (before ++ m :: after) where
  pools p := by
    have := h.pools p
    simp only [poolUse_eq_countP, List.countP_append, List.countP_cons, pool] at this ⊢
    exact this
  begun := by
    have one := h.begun
    simp only [List.countP_append, List.countP_cons] at one ⊢
    by_cases hm : m.state = .waiting
    · rw [if_neg (by simp [hm])]; omega
    · obtain hn | all := begun hm
      · simpa [hm, hn] using one
      · have none : ∀ l : List TxNote, (∀ k ∈ l, k.state = .waiting) → l.countP (fun k => decide (k.state ≠ .waiting)) = 0 :=
          fun l hl => List.countP_eq_zero.2 fun k hk => by simp [hl k hk]
        rw [none before fun k hk => all k (by simp [hk]), none after fun k hk => all k (by simp [hk])]
        simp [hm]
  notes k hk := by
    rw [List.mem_append, List.mem_cons] at hk
    obtain hk | rfl | hk := hk
    · exact h.notes k (by simp [hk])
    · exact sound (h.notes n (by simp))
    · exact h.notes k (by simp [hk])
  apart := by
    have apart := h.apart
    simp only [List.pairwise_append, List.pairwise_cons, List.mem_cons] at apart ⊢
    obtain ⟨hbefore, ⟨hn, hafter⟩, across⟩ := apart
    refine ⟨hbefore, ⟨fun k hk => ?_, hafter⟩, fun k hk j hj => ?_⟩
    · rw [mayWaitTogether_comm]
      exact beside k (mayWaitTogether_comm n k ▸ hn k hk)
    · obtain rfl | hj := hj
      · exact beside k (across k hk n (.inl rfl))
      · exact across k hk j (.inr hj)

/-- A new note may be queued where R118 finds a slot. -/
theorem BufferLaws.append {l : List TxNote} (h : BufferLaws l) {content : Content} {p : Pool} (place : placeFor l content.kind = some p)
    (sound : noteSound (newNote content p) = true) (beside : ∀ k ∈ l, mayWaitTogether k (newNote content p) = true) :
    BufferLaws (l ++ [newNote content p]) where
  pools q := by
    have free := (placeFor_free l _ p place).1
    have := h.pools q
    simp only [poolUse_eq_countP, List.countP_append, List.countP_cons, List.countP_nil] at free this ⊢
    by_cases hq : p = q
    · subst hq; simp [newNote]; omega
    · simpa [newNote, hq] using this
  begun := by simpa [newNote] using h.begun
  notes n hn := by
    obtain hn | hn := List.mem_append.1 hn
    · exact h.notes n hn
    · rwa [List.mem_singleton.1 hn]
  apart := List.pairwise_append.2 ⟨h.apart, by simp, fun k hk n hn => List.mem_singleton.1 hn ▸ beside k hk⟩

end Sys2Proof.Machine
end

section
/-! What the operations behind the commands keep: the queue, the identity, the configuration record, the laws of Safety.lean, and, where
nothing releases or replaces a board, a set latch and every condemnation (R53, R86). One lemma per operation, in the order of the model;
the statements about the whole machine read off what they need. -/

namespace Sys2Proof.Machine

open Sys2Proof.Safety

/-! ### The relation -/

/-- What is asked of an operation, and what is left to it: whether it has to keep the tracker's and the roster's laws, which slots'
condemnations it may end, and whether it may clear the latch. -/
structure Allowance where
  tracked : Prop
  rostered : Prop
  wiped : Nat → Prop
  unlatched : Prop

/-- What an operation keeps. A field that nothing is said of is kept because its block is. -/
structure Keeps (p : Allowance) (s t : State) : Prop where
  pending : t.pending = s.pending := by rfl
  serial : t.ctl.serial = s.ctl.serial := by rfl
  config : t.ctl.config = s.ctl.config := by rfl
  controller : ControllerSound s → ControllerSound t := by exact fun h => h
  tracker : p.tracked → ControllerSound s → TrackerSound s → TrackerSound t := by exact fun _ _ h => h
  engine : ControllerSound s → EngineSound s → EngineSound t := by exact fun _ h => h
  roster : p.rostered → ControllerSound s → RosterSound s → RosterSound t := by exact fun _ _ h => h
  link : LinkSound s → LinkSound t := by exact fun h => h
  buffer : ControllerSound s → BufferSound s → BufferSound t := by exact fun _ h => h
  latch : s.ctl.latch = true → t.ctl.latch = true ∨ p.unlatched := by exact fun h => Or.inl h
  condemned : ∀ x, isSlot x = true → (s.record x).standing = .condemned → (t.record x).standing = .condemned ∨ p.wiped x := by
    exact fun _ _ h => Or.inl h

namespace Keeps

variable {p : Allowance} {s t u : State} {c : ConfigRecord}

theorem refl (s : State) : Keeps p s s := {}

theorem trans (h : Keeps p s t) (k : Keeps p t u) : Keeps p s u where
  pending := k.pending.trans h.pending
  serial := k.serial.trans h.serial
  config := k.config.trans h.config
  controller a := k.controller (h.controller a)
  tracker q a b := k.tracker q (h.controller a) (h.tracker q a b)
  engine a b := k.engine (h.controller a) (h.engine a b)
  roster q a b := k.roster q (h.controller a) (h.roster q a b)
  link a := k.link (h.link a)
  buffer a b := k.buffer (h.controller a) (h.buffer a b)
  latch a := (h.latch a).elim k.latch .inr
  condemned x hx a := (h.condemned x hx a).elim (k.condemned x hx) .inr

/-- One operation after another, each with the configuration record at hand. -/
theorem andThen (h : Keeps p s t) (hc : s.ctl.config = some c) (k : t.ctl.config = some c → Keeps p t u) : Keeps p s u :=
  h.trans (k (h.config.trans hc))

theorem ite {q : Prop} [Decidable q] (ht : q → Keeps p s t) (hu : ¬ q → Keeps p s u) : Keeps p s (if q then t else u) := by
  split
  · exact ht ‹_›
  · exact hu ‹_›

/-- An operation that is taken or passed over. -/
theorem ite_self {q : Prop} [Decidable q] (h : q → Keeps p s t) : Keeps p s (if q then t else s) := ite h fun _ => refl s

theorem foldl {α : Type} (f : State → α → State) (h : ∀ s a, s.ctl.config = some c → Keeps p s (f s a)) :
    ∀ (l : List α) (s : State), s.ctl.config = some c → Keeps p s (l.foldl f s)
  | [], s, _ => refl s
  | a :: rest, s, hc => (h s a hc).andThen hc (foldl f h rest (f s a))

/-- Where the roster breaks its laws already, they need not be kept. -/
theorem of_not_rosterSound (h : Keeps { p with rostered := False } s t) (broken : ¬ RosterSound s) : Keeps p s t :=
  { h with roster := fun _ _ sound => absurd sound broken }

end Keeps

variable {p : Allowance} {s : State} {c : ConfigRecord}

/-! ### The Station Controller with a record stored -/

/-- The laws of the Station Controller where a record is stored, by name. -/
structure Configured (c : ConfigRecord) (s : State) : Prop where
  serial : s.ctl.serial ≠ 0
  configured : s.ctl.station ≠ .unconfigured
  strapped : s.ctl.station ≠ .mute .badStrap
  released : s.ctl.inReset = false
  sound : ConfigSound c
  slot : isSlot s.ownSlot = true
  digest : s.ctl.digest = some (digestOf c)
  armed : s.ctl.monitorArmed = true
  unlatched : s.ctl.station = .running → s.ctl.latch = false
  held : s.ctl.held ≠ none → s.ctl.station = .enrolling
  count : s.ctl.enrolCount ≤ 4
  period : s.ctl.station = .enrolling → s.ctl.enrolCount ≤ 3

theorem configured_of (h : ControllerSound s) (hc : s.ctl.config = some c) : Configured c s := by
  obtain ⟨serial, station, reset, stored, -, -, armed, unlatched, held, count, period⟩ := h
  have configured : s.ctl.station ≠ .unconfigured := fun e => by simpa [hc] using station.2 (.inl e)
  obtain ⟨sound, slot, digest⟩ := stored c hc
  exact ⟨serial, configured, fun e => by simpa [hc] using station.2 (.inr e),
    Bool.eq_false_iff.2 fun h => configured (reset h), sound, slot, digest, by simpa [hc] using armed, unlatched, held, count, period⟩

theorem Configured.controllerSound (h : Configured c s) (hc : s.ctl.config = some c) : ControllerSound s := by
  obtain ⟨serial, configured, strapped, released, sound, slot, digest, armed, unlatched, held, count, period⟩ := h
  refine ⟨serial, by simp [hc, configured, strapped], by simp [released], fun d hd => ?_, by simp [hc], fun _ _ => slot,
    by simpa [hc] using armed, unlatched, held, count, period⟩
  obtain rfl : c = d := by simpa [hc] using hd
  exact ⟨sound, slot, digest⟩

/-- The stored record is a sound one. -/
theorem configSound_of (hc : s.ctl.config = some c) (h : ControllerSound s) : ConfigSound c := (configured_of h hc).sound

/-! ### Links, choices and marks -/

theorem post_keeps (b : NoticeBody) (s : State) : Keeps p s (s.post b) := by
  obtain ⟨room, e⟩ | ⟨full, e⟩ := s.post_cases b <;> rw [e]
  · exact { link := fun ⟨bound, _⟩ => ⟨by simp; omega, by simp⟩ }
  · exact { link := fun ⟨bound, _⟩ => ⟨by simpa using bound, fun _ none => by
      have := congrArg List.length none; simp at this; simp [this] at full⟩ }

theorem latchFlag_keeps (f : BitVec 7) (s : State) : Keeps p s (s.latchFlag f) := {}

theorem nextChoice_keeps (s : State) : Keeps p s s.nextChoice := {}

theorem respond_keeps (b : Byte) (l : List Byte) (s : State) : Keeps p s (s.respond b l) :=
  { link := fun ⟨bound, _⟩ => ⟨bound, nofun⟩ }

theorem abort_keeps (s : State) : Keeps p s s.abort := { link := fun ⟨bound, _⟩ => ⟨bound, nofun⟩ }

theorem lineBusy_keeps (s : State) : Keeps p s s.lineBusy := {}

theorem lineIdle_keeps (s : State) : Keeps p s s.lineIdle := {}

/-- Marks of what is due may change, but where nothing may be due; the requests that a run holds stay sound. -/
theorem due_keeps (d : Due) (idle : s.ctl.config = none → s.due = Due.none → d = Due.none)
    (run : EngineSound s → ∀ r ∈ d.run, requestSound r = true) : Keeps p s { s with due := d } where
  controller h := by
    obtain ⟨serial, station, reset, stored, unstored, rest⟩ := h
    refine ⟨serial, station, reset, stored, fun none => ?_, rest⟩
    obtain ⟨digest, ms, epoch, count, tick, due⟩ := unstored none
    exact ⟨digest, ms, epoch, count, tick, idle none due⟩
  engine _ h := by
    have run := run h
    obtain ⟨length, records, bound, apart, entries, -⟩ := h
    exact ⟨length, records, bound, apart, entries, run⟩

/-- Marks of what is due may change while a record is stored. -/
theorem due_keeps_of_run_eq (hc : s.ctl.config = some c) (d : Due) (run : d.run = s.due.run) : Keeps p s { s with due := d } :=
  due_keeps d (by simp [hc]) fun ⟨_, _, _, _, _, sound⟩ r hr => sound r (run ▸ hr)

theorem setEvidenceDue_keeps (hc : s.ctl.config = some c) (n : Nat) : Keeps p s (s.setEvidenceDue n) := due_keeps_of_run_eq hc _ rfl

theorem setReceiverDue_keeps (hc : s.ctl.config = some c) (n : Nat) : Keeps p s (s.setReceiverDue n) := due_keeps_of_run_eq hc _ rfl

/-! ### Board records -/

theorem recordSound_reset : RecordSound BoardRecord.reset := by decide

/-- A record read is one of the table, or the reset record beyond it. -/
theorem record_mem_or_reset (s : State) (x : Nat) : s.record x ∈ s.eng.records ∨ s.record x = BoardRecord.reset := by
  unfold State.record
  by_cases h : x - 1 < s.eng.records.length
  · rw [List.getD_eq_getElem _ _ h]; exact .inl (List.getElem_mem h)
  · rw [List.getD_eq_default _ _ (by omega)]; exact .inr rfl

theorem recordSound_record (h : EngineSound s) (x : Nat) : RecordSound (s.record x) := by
  obtain ⟨-, records, -⟩ := h
  obtain mem | e := record_mem_or_reset s x
  · exact records _ mem
  · rw [e]; exact recordSound_reset

/-- A record read after one was written is the record written, where the slots share a place, or the record read before. -/
theorem record_setRecord_cases (s : State) (x y : Nat) (r : BoardRecord) :
    (y - 1 = x - 1 ∧ (s.setRecord x r).record y = r) ∨ (s.setRecord x r).record y = s.record y := by
  simp only [State.record, State.setRecord_eng, List.getD_eq_getElem?_getD, List.getElem?_set]
  split
  · split
    · exact .inl ⟨by omega, rfl⟩
    · exact .inr (by rw [List.getElem?_eq_none (by omega)])
  · exact .inr rfl

theorem engineSound_setRecord (h : EngineSound s) (x : Nat) {r : BoardRecord} (hr : RecordSound r) : EngineSound (s.setRecord x r) := by
  obtain ⟨length, records, rest⟩ := h
  refine ⟨by simpa using length, fun q hq => ?_, rest⟩
  obtain hq | rfl := List.mem_or_eq_of_mem_set hq
  · exact records q hq
  · exact hr

/-- A record may be written that is sound and, where the old one was CONDEMNED, stays so. -/
theorem setRecord_keeps (x : Nat) (r : BoardRecord) (sound : ControllerSound s → RecordSound (s.record x) → RecordSound r)
    (stays : (s.record x).standing = .condemned → r.standing = .condemned ∨ ∀ y, isSlot y = true → y - 1 = x - 1 → p.wiped y) :
    Keeps p s (s.setRecord x r) where
  engine hC h := engineSound_setRecord h x (sound hC (recordSound_record h x))
  condemned y hy h := by
    obtain ⟨same, e⟩ | e := record_setRecord_cases s x y r
    · have hx : (s.record x).standing = .condemned := by rw [State.record, ← same]; exact h
      rw [e]
      exact (stays hx).imp_right fun wiped => wiped y hy same
    · exact .inl (by rw [e]; exact h)

/-- Every record may be changed by one function that keeps soundness and standings. -/
theorem mapRecords_keeps (f : BoardRecord → BoardRecord) (sound : ∀ r, RecordSound r → RecordSound (f r))
    (standing : ∀ r, (f r).standing = r.standing) (s : State) : Keeps p s (s.mapRecords f) where
  engine _ h := by
    obtain ⟨length, records, rest⟩ := h
    refine ⟨by simpa using length, fun q hq => ?_, rest⟩
    obtain ⟨r, hr, rfl⟩ := List.mem_map.1 hq
    exact sound r (records r hr)
  condemned x _ h := by
    refine .inl (Eq.trans ?_ h)
    simp only [State.record, State.mapRecords_eng, List.getD_eq_getElem?_getD, List.getElem?_map]
    cases s.eng.records[x - 1]? with
    | none => rfl
    | some r => exact standing r

/-! ### The pending accusation list -/

/-- The list may lose entries. -/
theorem setAccusations_keeps_of_sublist {l : List Accusation} (h : l.Sublist s.eng.accusations) : Keeps p s (s.setAccusations l) where
  engine _ := fun ⟨length, records, bound, apart, entries, run⟩ =>
    ⟨length, records, h.length_le.trans bound, apart.sublist h, fun e he => entries e (h.subset he), run⟩

/-! ### The roster -/

/-- What the laws of the roster ask of one entry. -/
def EntryLaws (config : Option ConfigRecord) (e : RosterEntry) : Prop :=
  EntrySound e ∧ (∀ c ∈ config, e.presence = .present → e.lapse < c.lapse) ∧ (config = none → e.lapse = 0)

theorem rosterSound_iff (s : State) :
    RosterSound s ↔ s.rcv.roster.length = 24 ∧ ∀ e ∈ s.rcv.roster, EntryLaws s.ctl.config e :=
  ⟨fun ⟨length, sound, present, unstored⟩ =>
      ⟨length, fun e he => ⟨sound e he, fun c hc => present c hc e he, fun none => unstored none e he⟩⟩,
    fun ⟨length, laws⟩ => ⟨length, fun e he => (laws e he).1, fun c hc e he => (laws e he).2.1 c hc, fun none e he => (laws e he).2.2 none⟩⟩

theorem entryLaws_reset (config : Option ConfigRecord) : EntryLaws config RosterEntry.reset := ⟨by decide, nofun, fun _ => rfl⟩

theorem entryLaws_entry (h : RosterSound s) (x : Nat) : EntryLaws s.ctl.config (s.entry x) := by
  obtain ⟨-, laws⟩ := (rosterSound_iff s).1 h
  unfold State.entry
  by_cases hx : x - 1 < s.rcv.roster.length
  · rw [List.getD_eq_getElem _ _ hx]; exact laws _ (List.getElem_mem hx)
  · rw [List.getD_eq_default _ _ (by omega)]; exact entryLaws_reset _

theorem setEntry_keeps (x : Nat) (e : RosterEntry)
    (laws : p.rostered → ControllerSound s → EntryLaws s.ctl.config (s.entry x) → EntryLaws s.ctl.config e) :
    Keeps p s (s.setEntry x e) where
  roster q hC h := by
    obtain ⟨length, all⟩ := (rosterSound_iff s).1 h
    refine (rosterSound_iff _).2 ⟨by simpa using length, fun f hf => ?_⟩
    obtain hf | rfl := List.mem_or_eq_of_mem_set hf
    · exact all f hf
    · exact laws q hC (entryLaws_entry h x)

theorem mapRoster_keeps (f : RosterEntry → RosterEntry) (laws : ∀ config e, EntryLaws config e → EntryLaws config (f e)) (s : State) :
    Keeps p s (s.mapRoster f) where
  roster _ _ h := by
    obtain ⟨length, all⟩ := (rosterSound_iff s).1 h
    refine (rosterSound_iff _).2 ⟨by simpa using length, fun g hg => ?_⟩
    obtain ⟨e, he, rfl⟩ := List.mem_map.1 hg
    exact laws _ e (all e he)

/-! ### The transmit buffer -/

/-- The station takes part on the bus: it is neither UNCONFIGURED nor in MUTE. -/
theorem not_silent_of_live (h : s.ctl.station.live = true) : ¬ (s.ctl.station = .unconfigured ∨ ∃ r, s.ctl.station = .mute r) := by
  rintro (e | ⟨r, e⟩) <;> rw [e] at h <;> cases h

/-- The buffer may change to one that keeps its laws, and that stays empty where it has to be. -/
theorem setBuffer_keeps {l : List TxNote} (laws : BufferLaws s.xmt.buffer → BufferLaws l)
    (empty : s.ctl.station.live = true ∨ (s.xmt.buffer = [] → l = [])) : Keeps p s (s.setBuffer l) where
  buffer _ h := by
    obtain ⟨list, budget, unstored, silent⟩ := (bufferSound_iff s).1 h
    refine (bufferSound_iff _).2 ⟨laws list, budget, unstored, fun hs => ?_⟩
    obtain live | stays := empty
    · exact absurd hs (not_silent_of_live live)
    · exact stays (silent hs)

theorem setBuffer_keeps_of_sublist {l : List TxNote} (h : l.Sublist s.xmt.buffer) : Keeps p s (s.setBuffer l) :=
  setBuffer_keeps (fun laws => laws.sublist h) (.inr fun e => by rw [e] at h; exact List.sublist_nil.1 h)

theorem setBuffer_filterMap_keeps {f : TxNote → Option TxNote} (marks : ∀ m n, f m = some n → n.unmarked = m.unmarked) (s : State) :
    Keeps p s (s.setBuffer (s.xmt.buffer.filterMap f)) :=
  setBuffer_keeps (fun laws => laws.filterMap marks) (.inr fun e => by rw [e]; rfl)

/-- A note is queued by a station that takes part on the bus. -/
theorem enqueue_keeps {content : Content} (live : s.ctl.station.live = true)
    (sound : ∀ q, poolHolds q content.kind = true → noteSound (newNote content q) = true)
    (beside : ∀ k ∈ s.xmt.buffer, ∀ q, mayWaitTogether k (newNote content q) = true) : Keeps p s (s.enqueue content) := by
  obtain ⟨q, place, e⟩ | ⟨_, e⟩ := enqueue_cases s content <;> rw [e]
  · exact setBuffer_keeps (fun laws => laws.append place (sound q (placeFor_free _ _ q place).2) fun k hk => beside k hk q) (.inl live)
  · exact .refl s

theorem mayWaitTogether_of_kind_ne (m : TxNote) {n : TxNote} (h : n.content.kind ≠ .accuse) : mayWaitTogether m n = true := by
  unfold mayWaitTogether
  split
  · rename_i hn
    exact absurd (by rw [hn]; rfl) h
  · rfl

theorem queueBeacon_keeps (live : s.ctl.station.live = true) : Keeps p s s.queueBeacon :=
  enqueue_keeps live (fun q hq => by rw [noteSound]; cases q <;> simp_all [newNote, Content.kind])
    fun k _ q => mayWaitTogether_of_kind_ne k (by simp [newNote, Content.kind])

theorem queueEnrol_keeps (live : s.ctl.station.live = true) : Keeps p s s.queueEnrol :=
  enqueue_keeps live (fun q hq => by rw [noteSound]; cases q <;> simp_all [newNote, Content.kind])
    fun k _ q => mayWaitTogether_of_kind_ne k (by simp [newNote, Content.kind])

end Sys2Proof.Machine
end

section
/-! What the operations of the Station Controller, the Evidence Engine and the Note Transmitter keep (chapters 2 to 5 and 7). -/

namespace Sys2Proof.Machine

open Sys2Proof.Safety

variable {p : Allowance} {s : State} {c : ConfigRecord}

/-! ### Announcements -/

theorem mergeTarget_eq_true {a : Nat} {k : AccKind} {n : TxNote} (h : mergeTarget a k n = true) :
    n.state = .waiting ∧ ∃ tags surplus, n.content = .accuse a k tags surplus := by
  unfold mergeTarget at h
  split at h
  · rename_i a' k' tags surplus content
    simp only [Bool.and_eq_true, decide_eq_true_eq] at h
    obtain ⟨⟨rfl, rfl⟩, waiting⟩ := h
    exact ⟨waiting, tags, surplus, content⟩
  · cases h
  · cases h
  · cases h

/-- A merge counts the tag in once, as a tag below six, else in the surplus. -/
theorem mergeTag_accuse {a : Nat} {k : AccKind} {tags : List Half} {surplus : Nat} {n : TxNote} (t : Half)
    (h : n.content = .accuse a k tags surplus) :
    mergeTag t n = if t ∈ tags then n
      else if tags.length < 6 then { n with content := .accuse a k (tags ++ [t]) surplus }
      else { n with content := .accuse a k tags (min 255 (surplus + 1)) } := by
  rw [mergeTag, h]

/-- A merge keeps the accused, the kind and the bounds of the note. -/
theorem mergeTag_keeps {before after : List TxNote} {a : Nat} {k : AccKind} {n : TxNote} (t : Half) (target : mergeTarget a k n = true)
    (h : BufferLaws (before ++ n :: after)) : BufferLaws (before ++ mergeTag t n :: after) := by
  obtain ⟨waiting, tags, surplus, content⟩ := mergeTarget_eq_true target
  obtain ⟨tags', surplus', merged, bounds⟩ : ∃ tags' surplus', mergeTag t n = { n with content := .accuse a k tags' surplus' } ∧
      (1 ≤ tags.length → tags.length ≤ 6 → surplus ≤ 255 → 1 ≤ tags'.length ∧ tags'.length ≤ 6 ∧ surplus' ≤ 255) := by
    rw [mergeTag_accuse t content]
    split_ifs
    · exact ⟨tags, surplus, by rw [← content], fun h1 h6 h255 => ⟨h1, h6, h255⟩⟩
    · exact ⟨tags ++ [t], surplus, rfl, fun h1 h6 h255 => ⟨by simp, by simp; omega, h255⟩⟩
    · exact ⟨tags, min 255 (surplus + 1), rfl, fun h1 h6 _ => ⟨h1, h6, by omega⟩⟩
  rw [merged]
  refine h.replace rfl (fun sound => ?_) (fun m beside => ?_) fun begun => absurd waiting begun
  · simp only [noteSound, content, Content.kind, Bool.and_eq_true, decide_eq_true_eq] at sound ⊢
    obtain ⟨⟨⟨pool, seq⟩, attempts⟩, ⟨h1, h6⟩, h255⟩ := sound
    obtain ⟨h1', h6', h255'⟩ := bounds h1 h6 h255
    exact ⟨⟨⟨pool, seq⟩, attempts⟩, ⟨h1', h6'⟩, h255'⟩
  · rw [← beside]
    unfold mayWaitTogether
    rw [content]
    cases m.content <;> rfl

/-- No unbegun ACCUSE of the accused slot and kind waits, so a new one may. -/
theorem mayWaitTogether_newNote_accuse {a : Nat} {k : AccKind} {m : TxNote} (t : List Half) (n : Nat) (q : Pool)
    (none : mergeTarget a k m = false) : mayWaitTogether m (newNote (.accuse a k t n) q) = true := by
  unfold mergeTarget at none
  unfold mayWaitTogether
  cases hm : m.content <;> simp_all [newNote]
  tauto

theorem live_of_running (h : s.ctl.station = .running) : s.ctl.station.live = true := by rw [h]; rfl

theorem announce_keeps (a : Nat) (k : AccKind) (t : Half) (s : State) : Keeps p s (s.announce a k t) := by
  obtain e | ⟨running, ⟨i, found, e⟩ | ⟨none, e⟩⟩ := announce_cases s a k t
  · rw [e]; exact .refl s
  · have merged : Keeps p s (s.setBuffer (s.xmt.buffer.modify i (mergeTag t))) := by
      obtain ⟨before, n, after, split, rfl, target, -⟩ := exists_split_of_findIdx? found
      rw [split, modify_append_cons_length]
      exact setBuffer_keeps (fun laws => mergeTag_keeps t target (split ▸ laws)) (.inl (live_of_running running))
    obtain e | e := e <;> rw [e]
    · exact merged
    · exact merged.trans (latchFlag_keeps _ _)
  · obtain e | e := e <;> rw [e]
    · refine enqueue_keeps (live_of_running running) (fun q hq => ?_) fun m hm q => ?_
      · rw [noteSound]; cases q <;> simp_all [newNote, Content.kind]
      · exact mayWaitTogether_newNote_accuse _ _ q (List.findIdx?_eq_none_iff.1 none m hm)
    · exact latchFlag_keeps _ _

/-! ### Quarantine and MUTE -/

/-- The station state may become QUARANTINED, with the latch set or as it was; a trigger held over has to go, and the enrolment count
may have run out (R90, R91). -/
theorem quarantine_keeps (hc : s.ctl.config = some c) (n : Nat) (hn : ControllerSound s → n ≤ 4) (latch : Bool)
    (set : s.ctl.latch = true → latch = true) (held : Option HeldTrigger)
    (unheld : held = none ∨ (held = s.ctl.held ∧ s.ctl.station ≠ .enrolling)) :
    Keeps p s { s with ctl := { s.ctl with station := .quarantined, latch := latch, held := held, enrolCount := n } } where
  controller hC := by
    have h := configured_of hC hc
    have dropped : held = none := unheld.elim id fun ⟨e, ne⟩ => by
      by_contra some
      exact ne (h.held (e ▸ some))
    exact Configured.controllerSound { h with
      configured := nofun, strapped := nofun, unlatched := nofun, held := absurd dropped, count := hn hC, period := nofun } hc
  tracker _ _ := fun ⟨fifo, blind, level, oet, answers, apart, eligible, ages, _⟩ =>
    ⟨fifo, blind, level, oet, answers, apart, eligible, ages, fun _ ne => absurd rfl ne⟩
  buffer _ h := by
    obtain ⟨list, budget, unstored, -⟩ := (bufferSound_iff s).1 h
    exact (bufferSound_iff _).2 ⟨list, budget, unstored, by simp⟩
  latch h := .inl (set h)

/-- The whole entry to QUARANTINED from RUNNING, with its notice and what it makes of the buffer (R90). -/
theorem enterQuarantined_keeps (hc : s.ctl.config = some c) (running : s.ctl.station = .running) (k : Trigger) (z : Nat) :
    Keeps p s (s.enterQuarantined c k z) :=
  ((quarantine_keeps hc s.ctl.enrolCount (fun hC => (configured_of hC hc).count) (s.ctl.latch || decide (c.fence = FenceMode.enforce)) (by simp +contextual) s.ctl.held
    (.inr ⟨rfl, by simp [running]⟩)).trans (post_keeps _ _)).trans (setBuffer_filterMap_keeps quarantineNote_unmarked _)

theorem triggerInMute_keeps (hc : s.ctl.config = some c) (k : Trigger) (z : Nat) (muted : ∃ r, s.ctl.station = .mute r) :
    Keeps p s (s.triggerInMute c k z) := by
  refine .ite_self fun _ => Keeps.trans ?_ (post_keeps _ _)
  obtain ⟨r, hr⟩ := muted
  exact
    { controller := fun h =>
        Configured.controllerSound { configured_of h hc with unlatched := fun e => by simp [hr] at e } hc
      latch := fun _ => .inl rfl }

theorem takeTrigger_keeps (hc : s.ctl.config = some c) (k : Trigger) (z : Nat) : Keeps p s (s.takeTrigger c k z) := by
  unfold State.takeTrigger
  split
  · exact enterQuarantined_keeps hc ‹_› k z
  · rename_i enrolling
    exact { controller := fun h => Configured.controllerSound { configured_of h hc with held := fun _ => enrolling } hc }
  · exact triggerInMute_keeps hc k z ⟨_, ‹_›⟩
  · exact .refl s
  · exact .refl s

/-- The station state may become RUNNING where the latch is clear; a trigger held over has to go, and the enrolment count may have run
out (R95, R152). -/
theorem run_keeps (hc : s.ctl.config = some c) (n : Nat) (hn : ControllerSound s → n ≤ 4) (unlatched : s.ctl.latch = false)
    (held : Option HeldTrigger) (unheld : held = none ∨ (held = s.ctl.held ∧ s.ctl.station ≠ .enrolling)) :
    Keeps p s { s with ctl := { s.ctl with station := .running, held := held, enrolCount := n } } where
  controller hC := by
    have h := configured_of hC hc
    have dropped : held = none := unheld.elim id fun ⟨e, ne⟩ => by
      by_contra some
      exact ne (h.held (e ▸ some))
    exact Configured.controllerSound { h with
      configured := nofun, strapped := nofun, unlatched := fun _ => unlatched, held := absurd dropped, count := hn hC,
      period := nofun } hc
  tracker _ _ := fun ⟨fifo, blind, level, oet, answers, apart, eligible, ages, _⟩ =>
    ⟨fifo, blind, level, oet, answers, apart, eligible, ages, fun ne => absurd rfl ne⟩
  buffer _ h := by
    obtain ⟨list, budget, unstored, -⟩ := (bufferSound_iff s).1 h
    exact (bufferSound_iff _).2 ⟨list, budget, unstored, by simp⟩

/-- The first steps of entry to MUTE (R153); the enrolment count may have run out. -/
theorem mute_keeps (hc : s.ctl.config = some c) (r : MuteReason) (hr : r ≠ .badStrap) (n : Nat) (hn : ControllerSound s → n ≤ 4) :
    Keeps p s { s with ctl := { s.ctl with station := .mute r, held := none, enrolCount := n }, xmt := { s.xmt with buffer := [] },
                       trk := Tracker.reset } where
  controller hC := by
    have h := configured_of hC hc
    exact Configured.controllerSound { h with
      configured := nofun, strapped := by simpa using hr, unlatched := nofun, held := absurd rfl, count := hn hC,
      period := nofun } hc
  tracker _ _ _ := by simp [TrackerSound, Tracker.reset]
  buffer _ h := by
    obtain ⟨-, budget, unstored, -⟩ := (bufferSound_iff s).1 h
    exact (bufferSound_iff _).2 ⟨bufferLaws_nil, budget, unstored, fun _ => rfl⟩

theorem muteDetail_reason_ne {d : MuteDetail} (hd : ∀ v, d ≠ .badStrap v) : d.reason ≠ .badStrap := by
  cases d with
  | badStrap v => exact absurd rfl (hd v)
  | slotConflict k => nofun
  | configMinority a b => nofun
  | clockFault => nofun

theorem enterMute_keeps (hc : s.ctl.config = some c) (d : MuteDetail) (hd : ∀ v, d ≠ .badStrap v) : Keeps p s (s.enterMute c d) := by
  have muted : Keeps p s (s.muted d) :=
    (mute_keeps hc d.reason (muteDetail_reason_ne hd) s.ctl.enrolCount fun hC => (configured_of hC hc).count).trans (post_keeps _ _)
  obtain e | ⟨h, _, _, _, e⟩ := enterMute_cases c d s <;> rw [e]
  · exact muted
  · exact muted.andThen hc fun hc => triggerInMute_keeps hc _ _ ⟨d.reason, by simp [State.muted]⟩

/-! ### Standings -/

/-- A change of standing does not end CONDEMNED. -/
theorem changeStanding_keeps (x : Nat) (new : Standing) (cause : Cause)
    (stays : (s.record x).standing = .condemned → new = .condemned ∨ ∀ y, isSlot y = true → y - 1 = x - 1 → p.wiped y) :
    Keeps p s (s.changeStanding x new cause) :=
  .ite (fun _ => .refl s) fun _ => (setRecord_keeps x _ (fun _ ⟨score, probation, size, ordered, _⟩ =>
    ⟨score, probation, size, ordered, nofun⟩) stays).trans (post_keeps _ _)

theorem newStanding_condemned (c : ConfigRecord) (score z : Nat) : newStanding c .condemned score z = .condemned := rfl

theorem evaluate_keeps (hc : s.ctl.config = some c) (x : Nat) : Keeps p s (s.evaluate c x) := by
  have judged (b : Bool) (new : Standing) (stays : (s.record x).standing = .condemned → new = .condemned) :
      Keeps p s ((s.setRecord x { s.record x with quorumShort := b }).changeStanding x new .evidence) := by
    refine (setRecord_keeps x { s.record x with quorumShort := b } (fun _ h => h) .inl).trans
      (changeStanding_keeps x new .evidence fun h => .inl ?_)
    obtain ⟨_, e⟩ | e := record_setRecord_cases s x x { s.record x with quorumShort := b } <;> rw [e] at h <;> exact stays h
  have stays (h : (s.record x).standing = .condemned) : newStanding c (s.record x).standing (s.record x).score
      (independentZones c x (s.record x).witnesses) = .condemned := by rw [h, newStanding_condemned]
  exact .ite (fun _ => (judged _ _ stays).andThen hc fun hc => takeTrigger_keeps hc _ _) fun _ => judged _ _ stays

theorem clearRecord_keeps (hc : s.ctl.config = some c) (x : Nat) (cause : Cause)
    (wiped : ∀ y, isSlot y = true → y - 1 = x - 1 → p.wiped y) : Keeps p s (s.clearRecord c x cause) := by
  refine (setRecord_keeps x _ (fun hC ⟨_, _, _, _, causeless⟩ => ?_) fun _ => .inr wiped).trans
    (changeStanding_keeps x .clear cause fun _ => .inr wiped)
  have ⟨_, _, _, _, _, _, _, _, _, _, probation, _⟩ := configSound_of hc hC
  exact ⟨Nat.zero_le _, probation.2, by simp [clearedRecord], by simp [clearedRecord], causeless⟩

/-! ### Evidence -/

theorem recordSound_appliedRecord (c : ConfigRecord) (now : Half) (w a : Nat) (k : EvidenceKind) (n : Nat) {r : BoardRecord}
    (h : RecordSound r) : RecordSound (appliedRecord c now w a k n r) := by
  obtain ⟨-, probation, size, ordered, causeless⟩ := h
  exact ⟨Nat.min_le_left _ _, probation, length_witnessUpdate_le now w _ ordered size, orderedBySlot_witnessUpdate now w _ ordered, causeless⟩

theorem applyItem_keeps (c : ConfigRecord) (w a : Nat) (k : EvidenceKind) (n : Nat) (s : State) : Keeps p s (s.applyItem c w a k n) :=
  .ite_self fun _ => setRecord_keeps a _ (fun _ h => recordSound_appliedRecord c _ w a k n h) .inl

theorem applyAndEvaluate_keeps (hc : s.ctl.config = some c) (w a : Nat) (k : EvidenceKind) (n : Nat) :
    Keeps p s (s.applyAndEvaluate c w a k n) :=
  .ite_self fun _ => (applyItem_keeps c w a k n s).andThen hc fun hc => evaluate_keeps hc a

/-! ### The pending accusation list -/

theorem promote_keeps (hc : s.ctl.config = some c) : Keeps p s (s.promote c) := by
  unfold State.promote
  split
  · exact .refl s
  · exact (applyAndEvaluate_keeps hc _ _ _ _).trans (setAccusations_keeps_of_sublist (List.tail_sublist _))

/-- Early promotion takes the oldest entry off the list. -/
theorem promote_accusations (c : ConfigRecord) (s : State) : (s.promote c).eng.accusations = s.eng.accusations.tail := by
  unfold State.promote
  split
  · rename_i h; rw [h]; rfl
  · simp [applyAndEvaluate_accusations]

/-- An entry whose key no other has may be put at the tail, after early promotion where the list is full. -/
theorem appendEntry_keeps (hc : s.ctl.config = some c) {x a : Nat} (k : AccKind) {load : Load} (hx : isSlot x = true) (ha : isSlot a = true)
    (count : EngineSound s → ∀ stamp, 1 ≤ Accusation.count ⟨x, a, k, load, stamp⟩ ∧ Accusation.count ⟨x, a, k, load, stamp⟩ ≤ 255)
    (new : ∀ e ∈ s.eng.accusations, ∀ stamp, mayStandTogether e ⟨x, a, k, load, stamp⟩ = true) :
    Keeps p s (s.appendEntry c x a k load) := by
  obtain ⟨u, kept, list, e⟩ : ∃ u, Keeps p s u ∧
      (u.eng.accusations.Sublist s.eng.accusations ∧ (s.eng.accusations.length ≤ 48 → u.eng.accusations.length < 48)) ∧
      s.appendEntry c x a k load =
        u.setAccusations (u.eng.accusations ++ [{ accuser := x, accused := a, kind := k, load := load, stamp := u.evidenceEpoch }]) := by
    by_cases room : s.eng.accusations.length < 48
    · exact ⟨s, .refl s, ⟨.refl _, fun _ => room⟩, by simp [State.appendEntry, room]⟩
    · refine ⟨s.promote c, promote_keeps hc, ?_, by simp [State.appendEntry, room]⟩
      rw [promote_accusations]
      exact ⟨List.tail_sublist _, fun _ => by rw [List.length_tail]; omega⟩
  rw [e]
  obtain ⟨sub, short⟩ := list
  exact
    { kept with
      engine := fun hC h => by
        obtain ⟨length, records, -, apart, entries, run⟩ := kept.engine hC h
        have ⟨_, _, bound, _⟩ := h
        have room := short bound
        refine ⟨length, records, by simp; omega, List.pairwise_append.2 ⟨apart, by simp, fun e he f hf => ?_⟩, fun e he => ?_, run⟩
        · rw [List.mem_singleton.1 hf]; exact new e (sub.subset he) _
        · obtain he | he := List.mem_append.1 he
          · exact entries e he
          · rw [List.mem_singleton.1 he]; exact ⟨hx, ha, count h _⟩ }

theorem mayStandTogether_tagged {x a : Nat} {t : Half} {e : Accusation} (new : isTagged x a t e = false) (k : AccKind) (stamp : Half) :
    mayStandTogether e ⟨x, a, k, .tagged t, stamp⟩ = true := by
  unfold mayStandTogether
  cases hl : e.load with
  | tagged u => simpa [isTagged, hl, or_assoc, imp_iff_not_or] using new
  | untagged n => rfl

theorem mayStandTogether_untagged {x a : Nat} {k : AccKind} {e : Accusation} (new : isUntagged x a k e = false) (n : Nat) (stamp : Half) :
    mayStandTogether e ⟨x, a, k, .untagged n, stamp⟩ = true := by
  unfold mayStandTogether
  cases hl : e.load with
  | tagged u => rfl
  | untagged m => simpa [isUntagged, hl, or_assoc, imp_iff_not_or] using new

theorem addTagged_keeps (hc : s.ctl.config = some c) (x a : Nat) (k : AccKind) (t : Half) : Keeps p s (s.addTagged c x a k t) := by
  obtain e | ⟨hx, ha, new, e⟩ := addTagged_cases c x a k t s <;> rw [e]
  · exact .refl s
  · exact appendEntry_keeps hc k hx ha (fun _ _ => by simp [Accusation.count]) fun f hf stamp =>
      mayStandTogether_tagged (by simpa using List.any_eq_false.1 new f hf) k stamp

/-- An addition of a surplus is passed over, counted into one entry, or put at the tail. -/
theorem addSurplus_cases (c : ConfigRecord) (x a : Nat) (k : AccKind) (n : Nat) (s : State) :
    s.addSurplus c x a k n = s ∨
    (s.addSurplus c x a k n =
      s.setAccusations (s.eng.accusations.map fun e => if isUntagged x a k e then addSurplusTo n e else e)) ∨
    (isSlot x = true ∧ isSlot a = true ∧ s.eng.accusations.any (isUntagged x a k) = false ∧
      s.addSurplus c x a k n = s.appendEntry c x a k (.untagged n)) := by
  unfold State.addSurplus
  split
  · rename_i h
    rw [Bool.and_eq_true] at h
    split
    · exact .inr (.inl rfl)
    · rename_i hn
      exact .inr (.inr ⟨h.1, h.2, by simpa using hn, rfl⟩)
  · exact .inl rfl

/-- A surplus counted in changes nothing of an entry but its count, which stays within 1 to 255. -/
theorem addSurplusTo_cases (n : Nat) (e : Accusation) :
    addSurplusTo n e = e ∨ ∃ m, e.load = .untagged m ∧ addSurplusTo n e = { e with load := .untagged (min 255 (m + n)) } := by
  unfold addSurplusTo
  cases hl : e.load with
  | tagged t => exact .inl rfl
  | untagged m => exact .inr ⟨m, rfl, rfl⟩

theorem mayStandTogether_addSurplusTo (n : Nat) (e f : Accusation) :
    mayStandTogether (addSurplusTo n e) f = mayStandTogether e f ∧ mayStandTogether f (addSurplusTo n e) = mayStandTogether f e := by
  obtain h | ⟨m, hl, h⟩ := addSurplusTo_cases n e <;> rw [h]
  · exact ⟨rfl, rfl⟩
  · unfold mayStandTogether
    rw [hl]
    cases f.load <;> exact ⟨rfl, rfl⟩

theorem addSurplus_keeps (hc : s.ctl.config = some c) (x a : Nat) (k : AccKind) (n : Nat) (hn : EngineSound s → 1 ≤ n ∧ n ≤ 255) :
    Keeps p s (s.addSurplus c x a k n) := by
  obtain e | e | ⟨hx, ha, new, e⟩ := addSurplus_cases c x a k n s <;> rw [e]
  · exact .refl s
  · exact
      { engine := fun _ ⟨length, records, bound, apart, entries, run⟩ => by
          refine ⟨length, records, by simpa using bound, List.pairwise_map.2 (apart.imp fun {e f} h => ?_), fun f hf => ?_, run⟩
          · split_ifs <;> simp only [mayStandTogether_addSurplusTo, h]
          · obtain ⟨e, he, rfl⟩ := List.mem_map.1 hf
            have sound := entries e he
            split_ifs
            · obtain h | ⟨m, hl, h⟩ := addSurplusTo_cases n e <;> rw [h]
              · exact sound
              · simp only [Accusation.count, hl] at sound ⊢
                exact ⟨sound.1, sound.2.1, by omega, by omega⟩
            · exact sound }
  · exact appendEntry_keeps hc k hx ha (fun h _ => hn h) fun f hf stamp =>
      mayStandTogether_untagged (by simpa using List.any_eq_false.1 new f hf) n stamp

theorem takeRebut_keeps (hc : s.ctl.config = some c) (x a : Nat) (t : Half) (k : AccKind) : Keeps p s (s.takeRebut c x a t k) := by
  refine .ite_self fun _ => ?_
  have noticed : Keeps p s (if s.ownSlot = a ∨ s.ownSlot = x then s.post (.path a x t k) else s) := .ite_self fun _ => post_keeps _ s
  exact (noticed.trans (setAccusations_keeps_of_sublist List.filter_sublist)).andThen hc fun hc => applyAndEvaluate_keeps hc _ _ _ _

/-! ### Observations and the peer quorum -/

theorem observe_keeps (hc : s.ctl.config = some c) (a : Nat) (k : AccKind) (t : Half) : Keeps p s (s.observe c a k t) := by
  have counted : Keeps p s { s with choices := s.choices + 1 } := {}
  obtain e | ⟨_, e⟩ | ⟨_, e | e⟩ := observe_cases c a k t s <;> rw [e]
  · exact .refl s
  · exact addTagged_keeps hc _ _ _ _
  · exact (counted.trans (announce_keeps a k t _)).andThen hc fun hc => addTagged_keeps hc _ _ _ _
  · exact (counted.trans (addTagged_keeps (by exact hc) _ _ _ _)).trans (announce_keeps a k t _)

theorem peerQuorum_keeps (hc : s.ctl.config = some c) : Keeps p s (s.peerQuorum c) :=
  .ite_self fun _ => (changeStanding_keeps _ _ _ fun _ => .inl rfl).andThen hc fun hc => takeTrigger_keeps hc _ _

end Sys2Proof.Machine
end

section
/-! What the Exchange Tracker's operations, the work at a boundary and the steps of enrolment keep (chapters 1, 2, 7 and 9). -/

namespace Sys2Proof.Machine

open Sys2Proof.Safety

variable {p : Allowance} {s : State} {c : ConfigRecord}

/-! ### Where the tracker works -/

/-- The station is in one of the two states in which the Tap Port and the Exchange Tracker work (R1, R23). -/
def State.tracks (s : State) : Prop := s.ctl.station = .running ∨ s.ctl.station = .quarantined

theorem live_of_tracks (h : s.tracks) : s.ctl.station.live = true := by obtain h | h := h <;> rw [h] <;> rfl

theorem EngineFrame.tracks {t : State} (h : EngineFrame s t) (hs : s.tracks) : t.tracks := by
  unfold State.tracks at *
  obtain e | ⟨_, e⟩ := h.station
  · rwa [e]
  · exact .inr e

/-- An observation counts one choice at most and else does what a request of the engine and an announcement do. -/
theorem observe_frame (c : ConfigRecord) (a : Nat) (k : AccKind) (t : Half) (s : State) :
    ∃ n, EngineFrame { s with choices := n } (s.observe c a k t) := by
  obtain e | ⟨_, e⟩ | ⟨_, e | e⟩ := observe_cases c a k t s <;> rw [e]
  · exact ⟨s.choices, .refl s⟩
  · exact ⟨s.choices, addTagged_frame c _ a k t s⟩
  · exact ⟨_, (announce_frame _ a k t).trans (addTagged_frame c _ a k t _)⟩
  · exact ⟨_, (addTagged_frame c _ a k t _).trans (announce_frame _ a k t)⟩

theorem observe_trk (c : ConfigRecord) (a : Nat) (k : AccKind) (t : Half) (s : State) : (s.observe c a k t).trk = s.trk :=
  (observe_frame c a k t s).elim fun _ h => h.trk

theorem observe_tracks (a : Nat) (k : AccKind) (t : Half) (h : s.tracks) : (s.observe c a k t).tracks :=
  (observe_frame c a k t s).elim fun _ f => f.tracks h

/-! ### The tap FIFO, the table and the answer list -/

theorem storeTap_keeps (e : TapEntry) (h : s.tracks) : Keeps p s (s.storeTap e) :=
  .ite (fun room =>
      { tracker := fun _ _ ⟨_, blind, level, oet, answers, apart, eligible, ages, _⟩ =>
          ⟨by simp; omega, blind, level, oet, answers, apart, eligible, ages, fun hr hq => (h.elim hr hq).elim⟩ })
    fun _ =>
      { tracker := fun _ _ ⟨fifo, _, level, oet, answers, apart, eligible, ages, _⟩ =>
          ⟨fifo, le_rfl, level, oet, answers, apart, eligible, ages, fun hr hq => (h.elim hr hq).elim⟩ }

theorem takeTapFrame_keeps (bytes : List Byte) (s : State) : Keeps p s (s.takeTapFrame bytes) := by
  unfold State.takeTapFrame
  split
  · exact .refl s
  rename_i examines
  split
  · exact latchFlag_keeps _ s
  split
  · exact latchFlag_keeps _ s
  split
  · refine storeTap_keeps _ ?_
    simp only [State.examinesTap, Bool.not_eq_true, Bool.not_eq_false', Bool.and_eq_true, Bool.or_eq_true,
      decide_eq_true_eq] at examines
    exact examines.2
  · exact .refl s

theorem raisedLevel_le {c : ConfigRecord} {occupancy level : Nat} (h : level ≤ 4) : raisedLevel c occupancy level ≤ 4 := by
  unfold raisedLevel; split <;> omega

theorem loweredLevel_le {c : ConfigRecord} {occupancy level : Nat} (h : level ≤ 4) : loweredLevel c occupancy level ≤ 4 := by
  unfold loweredLevel; split <;> omega

/-- A record may leave the FIFO. -/
theorem popTap_keeps {rest : List TapEntry} (h : rest.Sublist s.trk.tapFifo) :
    Keeps p s { s with trk := { s.trk with tapFifo := rest } } where
  tracker _ _ := fun ⟨fifo, blind, level, oet, answers, apart, eligible, ages, idle⟩ =>
    ⟨h.length_le.trans fifo, blind, level, oet, answers, apart, eligible, ages, fun hr hq => by
      have empty := idle hr hq
      rw [empty] at h ⊢
      rw [show rest = [] from List.sublist_nil.1 h]; rfl⟩

/-- An entry may leave the table, the level being reassessed (R11). -/
theorem removeExchange_keeps (c : ConfigRecord) (q : OetEntry → Bool) (s : State) : Keeps p s (s.removeExchange c q) where
  tracker _ _ := fun ⟨fifo, blind, level, oet, answers, apart, eligible, ages, idle⟩ => by
    have sub := removeExchange_sublist c q s
    refine ⟨fifo, blind, loweredLevel_le level, sub.length_le.trans oet, answers, apart.sublist sub,
      fun d hd e he => eligible d hd e (sub.subset he), fun e he => ages e (sub.subset he), fun hr hq => ?_⟩
    simp [State.removeExchange, idle hr hq, Tracker.reset, loweredLevel]

/-- A REQUEST may enter the table whose exchange is not in it and whose tag is eligible. -/
theorem insertExchange_keeps (hc : s.ctl.config = some c) {r : TapEntry} (new : s.trk.oet.any (isExchange r.dir r.peer r.tag) = false)
    (tag : tagEligible c s.trk.level r.tag = true) (tracks : p.tracked → s.tracks) : Keeps p s (s.insertExchange c r) := by
  obtain ⟨room, e⟩ | ⟨_, e⟩ := insertExchange_cases c r s <;> rw [e]
  · exact
      { tracker := fun q _ ⟨fifo, blind, level, oet, answers, apart, eligible, ages, _⟩ => by
          refine ⟨fifo, blind, raisedLevel_le level, by simp; omega, answers,
            List.pairwise_append.2 ⟨apart, by simp, fun f hf g hg => ?_⟩, fun d hd f hf => ?_, fun f hf => ?_,
            fun hr hq => ((tracks q).elim hr hq).elim⟩
          · obtain rfl := List.mem_singleton.1 hg
            simpa [isExchange, and_assoc] using List.any_eq_false.1 new f hf
          · obtain rfl : c = d := by simpa [hc] using hd
            obtain hf | hf := List.mem_append.1 hf
            · exact eligible c hc f hf
            · rw [List.mem_singleton.1 hf]; exact tagEligible_of_le c 0 _ _ (Nat.zero_le _) tag
          · obtain hf | hf := List.mem_append.1 hf
            · exact ages f hf
            · rw [List.mem_singleton.1 hf]; exact Nat.zero_le _ }
  · exact
      { tracker := fun q _ ⟨fifo, blind, level, oet, answers, apart, eligible, ages, _⟩ =>
          ⟨fifo, blind, level, oet, answers, apart, eligible, ages, fun hr hq => ((tracks q).elim hr hq).elim⟩ }

theorem length_appendAnswer_le {l : List Answer} (h : l.length ≤ 128) (a : Answer) : (appendAnswer l a).length ≤ 128 := by
  unfold appendAnswer; split <;> simp <;> omega

theorem offerAnswer_keeps (c : ConfigRecord) (r : TapEntry) (tracks : p.tracked → s.tracks) : Keeps p s (s.offerAnswer c r) :=
  .ite_self fun _ =>
    { tracker := fun q _ ⟨fifo, blind, level, oet, answers, apart, eligible, ages, _⟩ =>
        ⟨fifo, blind, level, oet, length_appendAnswer_le answers _, apart, eligible, ages, fun hr hq => ((tracks q).elim hr hq).elim⟩ }

theorem processRequest_keeps (hc : s.ctl.config = some c) (r : TapEntry) (tracks : p.tracked → s.tracks) :
    Keeps p s (s.processRequest c r) := by
  refine .ite_self fun h => ?_
  simp only [State.requestEligible, Bool.and_eq_true, Bool.not_eq_true'] at h
  obtain ⟨⟨_, new⟩, ⟨tag, _⟩, _⟩ := h
  exact insertExchange_keeps hc new tag tracks

theorem matchResponse_keeps (hc : s.ctl.config = some c) (r : TapEntry) : Keeps p s (s.matchResponse c r) := by
  unfold State.matchResponse
  split
  · have removed := removeExchange_keeps (p := p) c (isExchange r.dir.opposite r.peer r.tag) s
    exact .ite (fun _ => removed) fun _ => removed.andThen hc fun hc => observe_keeps hc _ _ _
  · exact .refl s

theorem matchResponse_tracks (r : TapEntry) (h : s.tracks) : (s.matchResponse c r).tracks := by
  unfold State.matchResponse
  split
  · dsimp only
    split
    · exact h
    · exact observe_tracks _ _ _ h
  · exact h

theorem processRecord_keeps (hc : s.ctl.config = some c) (r : TapEntry) (tracks : p.tracked → s.tracks) :
    Keeps p s (s.processRecord c r) := by
  unfold State.processRecord
  cases r.kind with
  | request => exact processRequest_keeps hc r tracks
  | response => exact (matchResponse_keeps hc r).trans (offerAnswer_keeps c r fun q => matchResponse_tracks r (tracks q))
  | cancel => exact .ite_self fun _ => removeExchange_keeps c _ s
  | other => exact .refl s

/-! ### Expiries and class ticks -/

theorem expireOldest_keeps (hc : s.ctl.config = some c) : Keeps p s (s.expireOldest c) := by
  unfold State.expireOldest
  split
  · have removed := removeExchange_keeps (p := p) c expiring s
    exact .ite (fun _ => removed) fun _ => removed.andThen hc fun hc => observe_keeps hc _ _ _
  · exact .refl s

theorem expireTimes_keeps : ∀ (n : Nat) {s : State}, s.ctl.config = some c → Keeps p s (s.expireTimes c n)
  | 0, s, _ => .refl s
  | n + 1, _, hc => (expireOldest_keeps hc).andThen hc fun hc => expireTimes_keeps n hc

theorem expireAll_keeps (hc : s.ctl.config = some c) : Keeps p s (s.expireAll c) := expireTimes_keeps _ hc

/-- An expiry takes the oldest expiring entry out of the table. -/
theorem expireOldest_oet (c : ConfigRecord) (s : State) : (s.expireOldest c).trk.oet = s.trk.oet.eraseP expiring := by
  unfold State.expireOldest
  split
  · dsimp only
    split
    · rfl
    · rw [observe_trk]; rfl
  · rename_i none
    exact (List.eraseP_of_forall_not fun e he => List.find?_eq_none.1 none e he).symm

theorem expireTimes_oet (c : ConfigRecord) : ∀ (n : Nat) (s : State), s.trk.oet.countP expiring ≤ n →
    ∀ e ∈ (s.expireTimes c n).trk.oet, e.age < 4
  | 0, s, h => fun e he => by
    have := List.countP_eq_zero.1 (Nat.le_zero.1 h) e he
    simpa [expiring] using this
  | n + 1, s, h => expireTimes_oet c n _ (by
    rw [expireOldest_oet]
    by_cases found : ∃ e ∈ s.trk.oet, expiring e = true
    · obtain ⟨e, he, hx⟩ := found
      obtain ⟨a, before, after, none, ha, split, erased⟩ := List.exists_of_eraseP he hx
      rw [split, List.countP_append, List.countP_cons_of_pos ha] at h
      rw [erased, List.countP_append]; omega
    · rw [List.countP_eq_zero.2 fun e he hx => found ⟨e, List.mem_of_mem_eraseP he, hx⟩]; exact Nat.zero_le n)

/-- After the expiries of a tick no entry is left to expire (R14). -/
theorem expireAll_oet (c : ConfigRecord) (s : State) : ∀ e ∈ (s.expireAll c).trk.oet, e.age < 4 := expireTimes_oet c _ s le_rfl

theorem takeClassTick_keeps {cls : Fin 4} (ages : ControllerSound s → TrackerSound s → ∀ e ∈ s.trk.oet, e.age < 4) :
    Keeps p s (s.takeClassTick cls) :=
  { due_keeps (p := p) (s := s) { s.due with classTicks := s.due.classTicks.filter fun k => decide (k ≠ cls) }
      (fun _ none => by rw [none]; rfl) fun ⟨_, _, _, _, _, run⟩ => run with
    tracker := fun _ hC h => by
      have ages := ages hC h
      obtain ⟨fifo, blind, level, oet, answers, apart, eligible, -, idle⟩ := h
      have same (e : OetEntry) : (if e.cls = cls.val then { e with age := e.age + 1 } else e) =
          { e with age := if e.cls = cls.val then e.age + 1 else e.age } := by split <;> rfl
      refine ⟨fifo, blind, level, by simpa [State.takeClassTick, agedOet] using oet, answers,
        List.pairwise_map.2 (apart.imp fun {e f} h => by rw [same, same]; exact h), fun d hd f hf => ?_, fun f hf => ?_, fun hr hq => ?_⟩
      · obtain ⟨e, he, rfl⟩ := List.mem_map.1 hf
        rw [same]; exact eligible d hd e he
      · obtain ⟨e, he, rfl⟩ := List.mem_map.1 hf
        have := ages e he
        split
        · show e.age + 1 ≤ 4; omega
        · omega
      · simp [State.takeClassTick, idle hr hq, Tracker.reset, agedOet] }

theorem classTickWork_keeps (hc : s.ctl.config = some c) (k : Fin 4) (ages : ∀ e ∈ s.trk.oet, e.age < 4) :
    Keeps p s (s.classTickWork c k) :=
  .ite_self fun _ => (takeClassTick_keeps fun _ _ => ages).andThen hc expireAll_keeps

theorem classTickWork_ages (k : Fin 4) (ages : ∀ e ∈ s.trk.oet, e.age < 4) : ∀ e ∈ (s.classTickWork c k).trk.oet, e.age < 4 := by
  unfold State.classTickWork
  split
  · exact expireAll_oet c _
  · exact ages

theorem foldl_classTickWork_keeps (l : List (Fin 4)) {s : State} : s.ctl.config = some c → (∀ e ∈ s.trk.oet, e.age < 4) →
    Keeps p s (l.foldl (fun t k => t.classTickWork c k) s) :=
  match l with
  | [] => fun _ _ => .refl _
  | k :: rest => fun hc ages => (classTickWork_keeps hc k ages).andThen hc fun hc =>
      foldl_classTickWork_keeps rest hc (classTickWork_ages k ages)

theorem allClassTicks_keeps (hc : s.ctl.config = some c) (ages : ∀ e ∈ s.trk.oet, e.age < 4) : Keeps p s (s.allClassTicks c) :=
  foldl_classTickWork_keeps _ hc ages

/-! ### The work at a boundary -/

theorem crossBoundary_keeps (boundary : s.due.boundary = true) : Keeps p s s.crossBoundary :=
  { due_keeps (p := p) (s := s) s.crossBoundary.due (fun _ none => by rw [none] at boundary; cases boundary)
      fun ⟨_, _, _, _, _, run⟩ => run with
    controller := fun ⟨serial, station, reset, stored, unstored, rest⟩ =>
      ⟨serial, station, reset, stored, fun none => (by
        obtain ⟨-, -, -, -, -, due⟩ := unstored none
        rw [due] at boundary; cases boundary), rest⟩ }

theorem blindWork_keeps (s : State) : Keeps p s s.blindWork :=
  .ite_self fun _ =>
    { due_keeps (p := p) (s := s) { s.due with blind := false } (fun _ none => by rw [none]; rfl) fun ⟨_, _, _, _, _, run⟩ => run with
      tracker := fun _ _ ⟨fifo, blind, level, oet, answers, apart, eligible, ages, idle⟩ =>
        ⟨fifo, (Nat.sub_le _ _).trans blind, level, oet, answers, apart, eligible, ages, fun hr hq => by
          simp only [idle hr hq]; rfl⟩ }

theorem evidenceUpTo_keeps (hc : s.ctl.config = some c) (k : Nat) : Keeps p s (s.evidenceUpTo c k) := by
  have decay (t : State) : Keeps p t (t.decayScores c) :=
    mapRecords_keeps (fun r => { r with score := decayed c.decay r.score }) (fun r ⟨score, rest⟩ => ⟨(Nat.sub_le _ _).trans score, rest⟩) (fun _ => rfl) t
  have expire (t : State) : Keeps p t (t.expireWitnesses c) :=
    mapRecords_keeps (fun r => { r with witnesses := r.witnesses.filter fun w => !witnessExpired c t.ctl.epoch w })
      (fun r ⟨score, probation, size, ordered, causeless⟩ =>
      ⟨score, probation, (List.length_filter_le _ _).trans size, ordered.filter _, causeless⟩) (fun _ => rfl) t
  have apply (t : State) (ht : t.ctl.config = some c) : Keeps p t (t.applyDue c) :=
    (Keeps.foldl _ (fun u e _ => applyItem_keeps c _ _ _ _ u) _ t ht).trans (setAccusations_keeps_of_sublist List.filter_sublist)
  have evaluate (t : State) (ht : t.ctl.config = some c) : Keeps p t (t.evaluateAll c) :=
    .foldl _ (fun u x hu => evaluate_keeps hu x) _ t ht
  have lower (t : State) : Keeps p t t.lowerProbations :=
    mapRecords_keeps (fun r => { r with probation := r.probation - 1 }) (fun r ⟨score, probation, rest⟩ => ⟨score, (Nat.sub_le _ _).trans probation, rest⟩) (fun _ => rfl) t
  unfold State.evidenceUpTo
  exact ((((setEvidenceDue_keeps hc _).trans (.ite_self fun _ => decay _)).trans (.ite_self fun _ => expire _)).andThen hc fun hc =>
    Keeps.andThen (.ite_self fun _ => apply _ hc) hc fun hc => Keeps.ite_self fun _ => evaluate _ hc).trans (.ite_self fun _ => lower _)

theorem advanceLapse_keeps (hc : s.ctl.config = some c) (x : Nat) : Keeps p s (s.advanceLapse c x) := by
  refine .ite_self fun ⟨_, present⟩ => ?_
  have sound (hC : ControllerSound s) (h : EntryLaws s.ctl.config (s.entry x)) : (s.entry x).lapse < c.lapse ∧ c.lapse ≤ 15 := by
    have ⟨_, _, _, _, _, _, _, _, _, lapse, _⟩ := configSound_of hc hC
    exact ⟨h.2.1 c hc present, lapse.2⟩
  refine .ite (fun _ => Keeps.trans (setEntry_keeps x _ fun _ hC h => ?_) (post_keeps _ _)) fun below =>
    setEntry_keeps x _ fun _ hC h => ?_
  all_goals
    have bounds := sound hC h
    obtain ⟨⟨seen, lapse, accepted, mute⟩, -, -⟩ := h
  · refine ⟨⟨by simpa [present] using seen, ?_, accepted, mute⟩, nofun, by simp [hc]⟩
    show (s.entry x).lapse + 1 ≤ 15
    omega
  · refine ⟨⟨seen, ?_, accepted, mute⟩, fun d hd _ => ?_, by simp [hc]⟩
    · show (s.entry x).lapse + 1 ≤ 15
      omega
    · obtain rfl : c = d := by simpa [hc] using hd
      show (s.entry x).lapse + 1 < c.lapse
      omega

theorem clearCounts_keeps (s : State) : Keeps p s s.clearCounts :=
  mapRoster_keeps (fun e => { e with accepted := 0 }) (fun _ _ ⟨⟨seen, lapse, _, mute⟩, rest⟩ => ⟨⟨seen, lapse, Nat.zero_le _, mute⟩, rest⟩) s

theorem lowerMutes_keeps (s : State) : Keeps p s s.lowerMutes :=
  mapRoster_keeps (fun e => { e with mute := e.mute - 1 }) (fun _ _ ⟨⟨seen, lapse, accepted, mute⟩, rest⟩ => ⟨⟨seen, lapse, accepted, (Nat.sub_le _ _).trans mute⟩, rest⟩) s

theorem receiverUpTo_keeps (hc : s.ctl.config = some c) (k : Nat) : Keeps p s (s.receiverUpTo c k) := by
  have lapse (t : State) (ht : t.ctl.config = some c) : Keeps p t (t.advanceLapses c) :=
    .foldl _ (fun u x hu => advanceLapse_keeps hu x) _ t ht
  unfold State.receiverUpTo
  exact ((Keeps.ite_self fun _ => clearCounts_keeps _).trans (.ite_self fun _ => lowerMutes_keeps _)).andThen hc fun hc =>
    Keeps.andThen (.ite_self fun _ => lapse _ hc) hc fun hc =>
      Keeps.andThen (.ite_self fun _ => peerQuorum_keeps hc) hc fun hc => setReceiverDue_keeps hc _

theorem evidenceWork_keeps (hc : s.ctl.config = some c) : Keeps p s (s.evidenceWork c) := .ite_self fun _ => evidenceUpTo_keeps hc 6

theorem receiverWork_keeps (hc : s.ctl.config = some c) : Keeps p s (s.receiverWork c) := .ite_self fun _ => receiverUpTo_keeps hc 5

theorem transmitterWork_keeps (hc : s.ctl.config = some c) : Keeps p s (s.transmitterWork c) := by
  refine .ite_self fun _ => ?_
  have refilled : Keeps p s { s with xmt := { s.xmt with budget := c.budget }, due := { s.due with transmitter := false } } :=
    { due_keeps_of_run_eq (p := p) hc { s.due with transmitter := false } rfl with
      buffer := fun _ h => by
        obtain ⟨list, -, -, silent⟩ := (bufferSound_iff s).1 h
        refine (bufferSound_iff _).2 ⟨list, fun d hd => ?_, by simp [hc], silent⟩
        obtain rfl : c = d := by simpa [hc] using hd
        exact le_rfl }
  exact .ite (fun sends => refilled.trans (queueBeacon_keeps (live_of_tracks sends))) fun _ => refilled

/-! ### The steps of enrolment -/

theorem leaveEnrolling_keeps (live : s.ctl.station.live = true) : Keeps p s s.leaveEnrolling :=
  (setBuffer_filterMap_keeps leaveEnrolNote_unmarked s).trans (queueBeacon_keeps live)

/-- The decision at the end of enrolment, the period count having run out (R152). -/
theorem endEnrolment_keeps (hc : s.ctl.config = some c) (n : Nat) (count : ControllerSound s → n ≤ 4) :
    Keeps p s (({ s with ctl := { s.ctl with enrolCount := n } } : State).endEnrolment c) := by
  have quarantined (k : Trigger) (z : Nat) :
      Keeps p s (({ s with ctl := { s.ctl with held := none, enrolCount := n } } : State).enterQuarantined c k z).leaveEnrolling :=
    (((quarantine_keeps hc n count (s.ctl.latch || decide (c.fence = FenceMode.enforce)) (by simp +contextual) none (.inl rfl)).trans
      (post_keeps _ _)).trans (setBuffer_filterMap_keeps quarantineNote_unmarked _)).trans (leaveEnrolling_keeps (by simp [Station.live]))
  have muted (d : MuteDetail) (hd : ∀ v, d ≠ .badStrap v) :
      Keeps p s (({ s with ctl := { s.ctl with enrolCount := n } } : State).enterMute c d) := by
    have muted := (mute_keeps (p := p) hc d.reason (muteDetail_reason_ne hd) n count).trans (post_keeps (.muted d (some s.ctl.station) s.ctl.latch) _)
    obtain e | ⟨h, _, _, _, e⟩ := enterMute_cases c d ({ s with ctl := { s.ctl with enrolCount := n } } : State) <;> rw [e]
    · exact muted
    · exact muted.andThen hc fun hc => triggerInMute_keeps hc _ _ ⟨d.reason, by simp⟩
  exact .ite (fun _ => muted _ nofun) fun _ => .ite (fun _ => quarantined _ _) fun _ => .ite (fun _ => quarantined _ _) fun unlatched =>
    (run_keeps hc n count (by simpa using unlatched) none (.inl rfl)).trans (leaveEnrolling_keeps rfl)

theorem enrolmentWork_keeps (hc : s.ctl.config = some c) : Keeps p s (s.enrolmentWork c) := by
  have marked : Keeps p s { s with due := { s.due with enrolment := false } } := due_keeps_of_run_eq hc _ rfl
  refine .ite (fun ⟨_, enrolling⟩ => ?_) fun _ => marked
  have count (hC : ControllerSound { s with due := { s.due with enrolment := false } }) : s.ctl.enrolCount + 1 ≤ 4 :=
    Nat.succ_le_succ ((configured_of hC hc).period enrolling)
  refine .ite (fun below => ?_) fun _ => marked.trans (endEnrolment_keeps (s := { s with due := { s.due with enrolment := false } }) hc _ count)
  have counted : Keeps p { s with due := { s.due with enrolment := false } } { s with
      ctl := { s.ctl with enrolCount := s.ctl.enrolCount + 1 }, due := { s.due with enrolment := false } } :=
    { controller := fun hC => Configured.controllerSound
        { configured_of hC hc with count := count hC, period := fun _ => Nat.le_of_lt_succ below } hc }
  exact (marked.trans counted).trans (queueEnrol_keeps (by simp only [enrolling]; rfl))

end Sys2Proof.Machine
end

section
/-! What the Note Receiver's and the rebuttal path's operations and the runs of an ACCUSE keep (chapters 4, 6 and 8). -/

namespace Sys2Proof.Machine

open Sys2Proof.Safety

variable {p : Allowance} {s : State} {c : ConfigRecord}

/-! ### Writing the roster -/

theorem post_setEntry (s : State) (b : NoticeBody) (x : Nat) (e : RosterEntry) : (s.post b).setEntry x e = (s.setEntry x e).post b := by
  unfold State.post State.setEntry; dsimp only; split <;> rfl

@[simp] theorem setEntry_setEntry (s : State) (x : Nat) (e f : RosterEntry) : (s.setEntry x e).setEntry x f = s.setEntry x f := by
  simp [State.setEntry]

/-- The digest's match and PRESENT with lapse counter 0 enter the entry together; the MISMATCH notice stands before the PRESENCE notice
(R133, R137). -/
theorem compareDigest_refreshPresence_eq (h : s.rcv.roster.length = 24) {x : Nat} (hx : isSlot x = true) (e : RosterEntry) (d : Half) :
    ((s.setEntry x e).compareDigest x d).refreshPresence x =
      let m := decide (s.ctl.digest = some d)
      let entered := s.setEntry x { e with matched := m, presence := .present, lapse := 0 }
      let compared := if e.matched = m then entered else entered.post (.mismatch x m d)
      if e.presence = .present then compared else compared.post (.presence x e.presence .present) := by
  have read (f : RosterEntry) : (s.setEntry x f).entry x = f := s.entry_setEntry_same h x hx f
  have refreshed (t : State) (f : RosterEntry) (ht : t.entry x = f) : t.refreshPresence x =
      if f.presence = .present then t.setEntry x { f with lapse := 0, presence := .present }
      else (t.setEntry x { f with lapse := 0, presence := .present }).post (.presence x f.presence .present) := by
    unfold State.refreshPresence; rw [ht]
  have compared : (s.setEntry x e).compareDigest x d =
      if e.matched = decide (s.ctl.digest = some d) then s.setEntry x e
      else (s.setEntry x { e with matched := decide (s.ctl.digest = some d) }).post (.mismatch x (decide (s.ctl.digest = some d)) d) := by
    unfold State.compareDigest; dsimp only; rw [read, setEntry_setEntry, State.setEntry_ctl]
  dsimp only
  rw [compared]
  split
  · rename_i same
    rw [refreshed _ e (read e), setEntry_setEntry, ← same]
  · rw [refreshed _ _ ((State.post_entry ..).trans (read _)), post_setEntry, setEntry_setEntry]

/-! ### Entries -/

theorem noteConflict_keeps (x : Nat) (kept : Word) (refused : Refused) (s : State) : Keeps p s (s.noteConflict x kept refused) := by
  obtain e | e := noteConflict_cases x kept refused s <;> rw [e]
  · exact .refl s
  · exact (setEntry_keeps x { s.entry x with conflictSeen := true } fun _ _ h => h).trans (post_keeps _ _)

theorem compareDigest_keeps (x : Nat) (d : Half) (s : State) : Keeps p s (s.compareDigest x d) := by
  obtain ⟨_, e⟩ | ⟨_, e⟩ := compareDigest_cases x d s <;> rw [e]
  · exact .refl s
  · exact (setEntry_keeps x { s.entry x with matched := decide (s.ctl.digest = some d) } fun _ _ h => h).trans (post_keeps _ _)

/-- A PRESENT entry with a serial and lapse counter 0 is lawful. -/
theorem entryLaws_present (hc : s.ctl.config = some c) (hC : ControllerSound s) {e : RosterEntry} (serial : e.serial ≠ 0)
    (present : e.presence = .present) (lapse : e.lapse = 0) (accepted : e.accepted ≤ 256) (mute : e.mute ≤ 2) :
    EntryLaws s.ctl.config e := by
  have ⟨_, _, _, _, _, _, _, _, _, bounds, _⟩ := configSound_of hc hC
  refine ⟨⟨by rw [present]; exact ⟨nofun, fun h => absurd h serial⟩, by omega, accepted, mute⟩, fun d hd _ => ?_, fun _ => lapse⟩
  obtain rfl : c = d := by simpa [hc] using hd
  omega

/-- The entry of a peer as its ENROL or BEACON leaves it before the content. -/
theorem entered_keeps (hc : s.ctl.config = some c) {x : Nat} (hx : isSlot x = true) (e : RosterEntry) (d : Half) (serial : e.serial ≠ 0)
    (counts : EntryLaws s.ctl.config (s.entry x) → e.accepted ≤ 256 ∧ e.mute ≤ 2) :
    Keeps p s (((s.setEntry x e).compareDigest x d).refreshPresence x) := by
  by_cases length : s.rcv.roster.length = 24
  · rw [compareDigest_refreshPresence_eq length hx]
    have entered : Keeps p s (s.setEntry x
        { e with matched := decide (s.ctl.digest = some d), presence := .present, lapse := 0 }) :=
      setEntry_keeps x _ fun _ hC h => entryLaws_present hc hC serial rfl rfl (counts h).1 (counts h).2
    have compared := Keeps.ite (q := e.matched = decide (s.ctl.digest = some d)) (fun _ => entered) fun _ =>
      entered.trans (post_keeps (.mismatch x (decide (s.ctl.digest = some d)) d) _)
    exact .ite (fun _ => compared) fun _ => compared.trans (post_keeps _ _)
  · refine Keeps.of_not_rosterSound ?_ fun h => length h.1
    refine ((setEntry_keeps x e False.elim).trans (compareDigest_keeps x d _)).trans ?_
    obtain ⟨_, e⟩ | ⟨_, e⟩ := refreshPresence_cases x ((s.setEntry x e).compareDigest x d) <;> rw [e]
    · exact setEntry_keeps x _ False.elim
    · exact (setEntry_keeps x _ False.elim).trans (post_keeps _ _)

theorem countAccepted_keeps (hc : s.ctl.config = some c) (x : Nat) : Keeps p s (s.countAccepted c x) := by
  have counted : Keeps p s (s.setEntry x { s.entry x with accepted := min 256 ((s.entry x).accepted + 1) }) :=
    setEntry_keeps x _ fun _ _ ⟨⟨seen, lapse, _, mute⟩, rest⟩ => ⟨⟨seen, lapse, Nat.min_le_left _ _, mute⟩, rest⟩
  obtain ⟨_, e⟩ | ⟨_, e⟩ := countAccepted_cases c x s <;> rw [e]
  · exact counted
  · exact (counted.trans (setEntry_keeps x { (State.setEntry s x { s.entry x with
      accepted := min 256 ((s.entry x).accepted + 1) }).entry x with mute := 2 } fun _ _ ⟨⟨seen, lapse, accepted, _⟩, rest⟩ =>
        ⟨⟨seen, lapse, accepted, le_rfl⟩, rest⟩)).andThen hc fun hc => applyAndEvaluate_keeps hc _ _ _ _

theorem takeView_keeps (hc : s.ctl.config = some c) (x : Nat) (view : Option BeaconView) : Keeps p s (s.takeView c x view) := by
  cases view with
  | none => exact .refl s
  | some v =>
    have flagged : Keeps p s (s.setEntry x { s.entry x with
        quarantined := v.quarantined, saturated := v.saturated,
        condemnsMe := v.condemned.any fun b => decide (b.toNat = s.ownSlot) }) := setEntry_keeps x _ fun _ _ h => h
    exact (flagged.trans (.ite_self fun _ => changeStanding_keeps x .condemned .selfReport fun _ => .inl rfl)).andThen hc fun hc =>
      peerQuorum_keeps hc

/-- The content of a note and its count come last, whatever the entry has become before. -/
theorem takeView_countAccepted_keeps {t : State} (hc : s.ctl.config = some c) (x : Nat) (view : Option BeaconView) (h : Keeps p s t) :
    Keeps p s ((t.takeView c x view).countAccepted c x) :=
  (h.andThen hc fun hc => takeView_keeps hc x view).andThen hc fun hc => countAccepted_keeps hc x

/-! ### Serial handling -/

theorem eq_of_isSlot_of_sub_eq {x y : Nat} (hx : isSlot x = true) (hy : isSlot y = true) (h : y - 1 = x - 1) : y = x := by
  simp only [isSlot, Bool.and_eq_true, decide_eq_true_eq] at hx hy; omega

/-- The entry of a station that has changed is lawful. -/
theorem changedEntry_keeps (hc : s.ctl.config = some c) (x : Nat) (serial : Word) (role : Role) (hs : serial ≠ 0) :
    Keeps p s (s.setEntry x (changedEntry (s.entry x) serial role)) :=
  setEntry_keeps x _ fun _ hC _ => entryLaws_present hc hC hs rfl rfl (Nat.zero_le _) (Nat.zero_le _)

theorem replacement_keeps (hc : s.ctl.config = some c) {x : Nat} (hx : isSlot x = true) (serial : Word) (role : Role) (digest : Half)
    (view : Option BeaconView) (hs : serial ≠ 0) (wiped : p.wiped x) : Keeps p s (s.replacement c x serial role digest view) := by
  have changed : Keeps p s ((s.setEntry x (changedEntry (s.entry x) serial role)).post (.replaced x (s.entry x).serial serial)) :=
    (changedEntry_keeps hc x serial role hs).trans (post_keeps _ _)
  refine takeView_countAccepted_keeps hc x view (Keeps.trans (changed.andThen hc fun hc => ?_) (compareDigest_keeps _ _ _))
  exact (setAccusations_keeps_of_sublist List.filter_sublist).andThen hc fun hc =>
    clearRecord_keeps hc x .replacement fun y hy e => eq_of_isSlot_of_sub_eq hx hy e ▸ wiped

theorem switchStation_keeps (hc : s.ctl.config = some c) (x : Nat) (serial : Word) (role : Role) (digest : Half)
    (view : Option BeaconView) (hs : serial ≠ 0) : Keeps p s (s.switchStation c x serial role digest view) := by
  have changed : Keeps p s (s.setEntry x (changedEntry (s.entry x) serial role)).nextChoice :=
    (changedEntry_keeps hc x serial role hs).trans (nextChoice_keeps _)
  exact takeView_countAccepted_keeps hc x view
    (.ite (fun _ => (changed.trans (noteConflict_keeps _ _ _ _)).trans (compareDigest_keeps _ _ _)) fun _ =>
      (changed.trans (compareDigest_keeps _ _ _)).trans (noteConflict_keeps _ _ _ _))

/-- The handling of an ENROL or BEACON of a peer slot; only a replacement may end a condemnation (R134). -/
theorem peerIdentity_keeps (hc : s.ctl.config = some c) {x : Nat} (hx : isSlot x = true) (seq : Byte) (serial : Word) (role : Role)
    (digest : Half) (view : Option BeaconView) (hs : serial ≠ 0)
    (wiped : serial ≠ (s.entry x).serial → (s.entry x).presence = .lapsed → p.wiped x) :
    Keeps p s (s.peerIdentity c x seq serial role digest view) := by
  have counts (e : RosterEntry) (h : EntryLaws s.ctl.config e) : e.accepted ≤ 256 ∧ e.mute ≤ 2 := by
    obtain ⟨⟨-, -, accepted, mute⟩, -⟩ := h
    exact ⟨accepted, mute⟩
  refine .ite (fun _ => ?_) fun named => .ite (fun _ => ?_) fun other => .ite (fun lapsed => ?_) fun _ =>
    .ite (fun _ => switchStation_keeps hc x serial role digest view hs) fun _ => noteConflict_keeps _ _ _ _
  · exact takeView_countAccepted_keeps hc x view (entered_keeps hc hx _ digest hs (counts _))
  · have refreshed := entered_keeps (p := p) hc hx { s.entry x with role := role, lastSeq := some seq } digest named (counts _)
    exact .ite (fun _ => refreshed.andThen hc fun hc => takeView_keeps hc x view) fun _ => takeView_countAccepted_keeps hc x view refreshed
  · exact replacement_keeps hc hx serial role digest view hs (wiped (Ne.symm other) lapsed)

theorem loseConflict_keeps (hc : s.ctl.config = some c) (kept : Word) : Keeps p s (s.loseConflict c kept) := by
  unfold State.loseConflict
  cases s.ctl.station with
  | enrolling => exact enterMute_keeps hc _ nofun
  | running => exact enterMute_keeps hc _ nofun
  | quarantined => exact enterMute_keeps hc _ nofun
  | unconfigured => exact .refl s
  | mute r => exact .refl s

theorem ownSlotIdentity_keeps (hc : s.ctl.config = some c) (serial : Word) : Keeps p s (s.ownSlotIdentity c serial) :=
  .ite (fun _ => .refl s) fun _ => .ite (fun _ => noteConflict_keeps _ _ _ _) fun _ =>
    (noteConflict_keeps _ _ _ _).andThen hc fun hc => loseConflict_keeps hc serial

theorem takeIdentity_keeps (sender : BitVec 5) (seq : Byte) (serial : Word) (role : Role) (digest : Half) (view : Option BeaconView)
    (s : State) (hs : serial ≠ 0)
    (wiped : serial ≠ (s.entry sender.toNat).serial → (s.entry sender.toNat).presence = .lapsed → p.wiped sender.toNat) :
    Keeps p s (s.takeIdentity sender seq serial role digest view) := by
  unfold State.takeIdentity
  cases hc : s.ctl.config with
  | none => exact .refl s
  | some c =>
    exact .ite (fun _ => .refl s) fun hx => .ite (fun _ => ownSlotIdentity_keeps hc serial) fun _ =>
      peerIdentity_keeps hc (by simpa using hx) seq serial role digest view hs wiped

/-! ### Runs -/

theorem offerRebut_keeps (hc : s.ctl.config = some c) (a : Nat) (k : AccKind) (t : Half) : Keeps p s (s.offerRebut c a k t) := by
  obtain ⟨_, e⟩ | ⟨running, ⟨q, place, e⟩ | ⟨_, e⟩⟩ := offerRebut_cases c a k t s <;> rw [e]
  · exact .refl s
  · refine Keeps.andThen (setBuffer_keeps (fun laws => laws.append (content := .rebut a t k) place ?_ ?_) (.inl (live_of_running running))) hc fun hc =>
      takeRebut_keeps hc _ _ _ _
    · have holds := (placeFor_free _ _ q place).2
      rw [noteSound]; cases q <;> simp_all [newNote, Content.kind]
    · exact fun k _ => mayWaitTogether_of_kind_ne k (by simp [newNote, Content.kind])
  · exact latchFlag_keeps _ _

theorem lookupAndRebut_keeps (hc : s.ctl.config = some c) (a : Nat) (k : AccKind) (t : Half) : Keeps p s (s.lookupAndRebut c a k t) :=
  .ite_self fun _ => offerRebut_keeps hc a k t

/-- A request is carried out whose surplus, if it is one, counts 1 to 255. -/
theorem carryOut_keeps (hc : s.ctl.config = some c) (r : Request) (sound : EngineSound s → requestSound r = true) :
    Keeps p s (s.carryOut c r) := by
  cases r with
  | addTagged x a k t => exact addTagged_keeps hc x a k t
  | addSurplus x a k n => exact addSurplus_keeps hc x a k n fun h => by simpa [requestSound] using sound h
  | lookup a k t => exact lookupAndRebut_keeps hc a k t
  | count x => exact countAccepted_keeps hc x

theorem countAccepted_due (c : ConfigRecord) (x : Nat) (s : State) : (s.countAccepted c x).due = s.due := by
  obtain ⟨_, e⟩ | ⟨_, e⟩ := countAccepted_cases c x s <;> rw [e]
  · rfl
  · exact (applyAndEvaluate_frame _ _ _ _ _ _).due

theorem carryOut_due (c : ConfigRecord) (r : Request) (s : State) : (s.carryOut c r).due = s.due := by
  cases r with
  | addTagged x a k t => exact (addTagged_frame c x a k t s).due
  | addSurplus x a k n => exact (addSurplus_frame c x a k n s).due
  | lookup a k t => exact (lookupAndRebut_frame c a k t s).due
  | count x => exact countAccepted_due c x s

theorem carryOutAll_due (c : ConfigRecord) (run : List Request) (s : State) : (s.carryOutAll c run).due = s.due := by
  unfold State.carryOutAll
  induction run generalizing s with
  | nil => rfl
  | cons r rest ih => rw [List.foldl_cons, ih, carryOut_due]

/-- A run is carried out whose requests are sound, by themselves or as the held ones of a sound state. -/
theorem carryOutAll_keeps (run : List Request) {s : State} (hc : s.ctl.config = some c)
    (sound : ∀ r ∈ run, r ∈ s.due.run ∨ requestSound r = true) : Keeps p s (s.carryOutAll c run) :=
  match run with
  | [] => .refl s
  | r :: rest =>
    have first : Keeps p s (s.carryOut c r) := carryOut_keeps hc r fun ⟨_, _, _, _, _, held⟩ => (sound r (by simp)).elim (held r) id
    first.andThen hc fun hc => carryOutAll_keeps rest hc fun q hq => by rw [carryOut_due]; exact sound q (by simp [hq])

theorem beginRun_keeps (hc : s.ctl.config = some c) (run : List Request) (sound : ∀ r ∈ run, requestSound r = true) :
    Keeps p s (s.beginRun c run) := by
  obtain ⟨done, held, t, split, -, ht, e⟩ := beginRun_parts c run s
  have begun : Keeps p s { s with overlaps := s.overlaps.tail } := {}
  have carried : Keeps p s t := ht ▸ begun.trans (carryOutAll_keeps done hc fun r hr => .inr (sound r (by simp [split, hr])))
  rw [e]
  exact carried.andThen hc fun hc => due_keeps _ (by simp [hc]) fun _ r hr => sound r (by simp [split, show r ∈ held from hr])

theorem accuseRun_sound (own : Nat) (n : AccuseNote) : ∀ r ∈ accuseRun own n, requestSound r = true := by
  intro r hr
  simp only [accuseRun, List.mem_append, List.mem_map, List.mem_singleton] at hr
  obtain ((⟨t, -, rfl⟩ | hr) | hr) | rfl := hr
  · rfl
  · split_ifs at hr with surplus
    · cases hr
    · rw [List.mem_singleton.1 hr]
      have := n.surplus.isLt
      have : n.surplus.toNat ≠ 0 := fun h => surplus (BitVec.eq_of_toNat_eq h)
      simp [requestSound]; omega
  · split_ifs at hr
    · obtain ⟨t, -, rfl⟩ := List.mem_map.1 hr; rfl
    · cases hr
  · rfl

/-! ### Notes -/

theorem setSequence_keeps (x : Nat) (seq : Byte) (s : State) : Keeps p s (s.setSequence x seq) := setEntry_keeps x _ fun _ _ h => h

theorem takeAccuse_keeps (n : AccuseNote) (s : State) : Keeps p s (s.takeAccuse n) := by
  unfold State.takeAccuse
  cases hc : s.ctl.config with
  | none => exact .refl s
  | some c =>
    exact .ite (fun _ => .refl s) fun _ => .ite (fun _ => noteConflict_keeps _ _ _ _) fun _ => .ite_self fun _ =>
      (setSequence_keeps _ _ s).andThen hc fun hc => beginRun_keeps hc _ (accuseRun_sound _ n)

theorem takeRebutNote_keeps (n : RebutNote) (s : State) : Keeps p s (s.takeRebutNote n) := by
  unfold State.takeRebutNote
  cases hc : s.ctl.config with
  | none => exact .refl s
  | some c =>
    exact .ite (fun _ => .refl s) fun _ => .ite (fun _ => noteConflict_keeps _ _ _ _) fun _ => .ite_self fun _ =>
      ((setSequence_keeps _ _ s).andThen hc fun hc => takeRebut_keeps hc _ _ _ _).andThen hc fun hc => countAccepted_keeps hc _

/-- The command that brings a note by its fields. -/
def receiveOf : Note → Instr
  | .enrol e => .receiveEnrol e
  | .beacon b => .receiveBeacon b
  | .accuse a => .receiveAccuse a
  | .rebut r => .receiveRebut r

/-- The taking of a note; only one that replaces a lapsed peer may end a condemnation. -/
theorem takeNote_keeps (n : Note) (s : State)
    (wiped : ∀ d, identityOf (receiveOf n) = some d → d.serial ≠ (s.entry d.slot).serial → (s.entry d.slot).presence = .lapsed →
      p.wiped d.slot) : Keeps p s (s.takeNote n) := by
  refine .ite (fun _ => .refl s) fun _ =>
    .ite (fun _ => (lineBusy_keeps s).trans (latchFlag_keeps _ _)) fun formed => (lineBusy_keeps s).trans ?_
  simp only [Bool.not_eq_true, Bool.not_eq_false'] at formed
  cases n with
  | enrol e => exact takeIdentity_keeps _ _ _ _ _ _ _ (by simpa [Note.wellFormed, EnrolNote.wellFormed] using formed) (wiped _ rfl)
  | beacon b =>
    exact takeIdentity_keeps _ _ _ _ _ _ _ (by
      simp only [Note.wellFormed, BeaconNote.wellFormed, Bool.and_eq_true, decide_eq_true_eq] at formed; exact formed.1) (wiped _ rfl)
  | accuse a => exact takeAccuse_keeps a _
  | rebut r => exact takeRebutNote_keeps r _

theorem takeReception_keeps (r : Reception) (s : State)
    (wiped : ∀ n d, judge r.bytes = some n → identityOf (receiveOf n) = some d → d.serial ≠ (s.entry d.slot).serial →
      (s.entry d.slot).presence = .lapsed → p.wiped d.slot) : Keeps p s (s.takeReception r) := by
  obtain ⟨_, e⟩ | ⟨_, n, hn, e⟩ | ⟨_, _, _, e⟩ | ⟨_, _, _, _, e⟩ := takeReception_cases r s <;> rw [e]
  · exact .refl s
  · exact takeNote_keeps n s (wiped n · hn)
  · exact (lineBusy_keeps s).trans (latchFlag_keeps _ _)
  · exact (lineIdle_keeps s).trans (latchFlag_keeps _ _)

end Sys2Proof.Machine
end

section
/-! What the bus transmitter's operations do and keep (chapter 6): the choice of a note, the beginning of an attempt and its ends. -/

namespace Sys2Proof.Machine

open Sys2Proof.Safety

variable {p : Allowance} {s : State} {c : ConfigRecord}

/-! ### The note that is chosen -/

theorem candidate_eq_true {u : BitVec 2} {n : TxNote} : s.candidate u n = true ↔
    n.state = .waiting ∧ urgencyOf n.content.kind = u ∧ permitted s.ctl.station n.content.kind = true ∧
      (n.budgeted = true → 0 < s.xmt.budget) := by
  simp only [State.candidate, Bool.and_eq_true, Bool.or_eq_true, Bool.not_eq_true', decide_eq_true_eq, and_assoc]
  cases n.budgeted <;> simp

/-- The urgency at which a candidate was found. -/
theorem nextNote_eq_some (waits : s.xmt.buffer.findIdx? (fun n => decide (n.state = .retryHead)) = none) {i : Nat}
    (h : s.nextNote = some i) : ∃ u, s.xmt.buffer.findIdx? (s.candidate u) = some i := by
  unfold State.nextNote at h
  rw [waits] at h
  dsimp only at h
  split at h
  · cases h; exact ⟨0, ‹_›⟩
  · split at h
    · cases h; exact ⟨1, ‹_›⟩
    · exact ⟨2, h⟩

/-- The next attempt is for the retry head, or, where there is none, for a waiting note with budget where it needs budget. -/
theorem nextNote_cases {i : Nat} (h : s.nextNote = some i) :
    ∃ before n after, s.xmt.buffer = before ++ n :: after ∧ before.length = i ∧ permitted s.ctl.station n.content.kind = true ∧
      (n.state = .retryHead ∨
        n.state = .waiting ∧ (∀ m ∈ s.xmt.buffer, m.state ≠ .retryHead) ∧ (n.budgeted = true → 0 < s.xmt.budget)) := by
  cases head : s.xmt.buffer.findIdx? (fun n => decide (n.state = .retryHead)) with
  | some j =>
    obtain ⟨before, n, after, split, rfl, found, -⟩ := exists_split_of_findIdx? head
    have at_head : s.xmt.buffer[before.length]? = some n := by rw [split, getElem?_append_cons_length]
    simp only [State.nextNote, head, at_head, Option.any_some] at h
    split_ifs at h with allowed
    cases h
    exact ⟨before, n, after, split, rfl, allowed, .inl (of_decide_eq_true found)⟩
  | none =>
    obtain ⟨u, found⟩ := nextNote_eq_some head h
    obtain ⟨before, n, after, split, length, candidate, -⟩ := exists_split_of_findIdx? found
    obtain ⟨waiting, -, allowed, budget⟩ := candidate_eq_true.1 candidate
    exact ⟨before, n, after, split, length, allowed,
      .inr ⟨waiting, fun m hm => by simpa using List.findIdx?_eq_none_iff.1 head m hm, budget⟩⟩

/-- An attempt that may begin is for the note at a place of the buffer; off an idle line, or without such a note, nothing happens. -/
theorem begin_cases (s : State) : s.begin = s ∨ s.mayBegin = true ∧ ∃ before n after,
    s.xmt.buffer = before ++ n :: after ∧ permitted s.ctl.station n.content.kind = true ∧
      (n.state = .retryHead ∧ s.begin = s.retryAttempt before.length n ∨
        n.state = .waiting ∧ (∀ m ∈ s.xmt.buffer, m.state ≠ .retryHead) ∧ s.begin = s.firstAttempt before.length n) := by
  by_cases may : s.mayBegin = true
  · cases next : s.nextNote with
    | none => exact .inl (by simp only [State.begin, may, next, if_true])
    | some i =>
      obtain ⟨before, n, after, split, rfl, allowed, state⟩ := nextNote_cases next
      have chosen : s.begin = if n.state = .retryHead then s.retryAttempt before.length n else s.firstAttempt before.length n := by
        simp only [State.begin, may, next, split, getElem?_append_cons_length, if_true]
      refine .inr ⟨may, before, n, after, split, allowed, state.imp (fun retry => ⟨retry, ?_⟩) fun ⟨waiting, others, _⟩ => ⟨waiting, others, ?_⟩⟩
      · rw [chosen, if_pos retry]
      · rw [chosen, if_neg (by simp [waiting])]
  · exact .inl (by simp only [State.begin, may, Bool.false_eq_true, if_false])

/-- The place of the note under way. -/
theorem underWayAt_eq_some {i : Nat} (h : s.underWayAt = some i) :
    ∃ before n after, s.xmt.buffer = before ++ n :: after ∧ before.length = i ∧ n.state = .underWay ∧
      ∀ m ∈ before, m.state ≠ .underWay := by
  obtain ⟨before, n, after, split, length, found, first⟩ := exists_split_of_findIdx? h
  exact ⟨before, n, after, split, length, of_decide_eq_true found, fun m hm => by simpa using first m hm⟩

/-! ### What an attempt keeps -/

@[simp] theorem kind_fixedContent (s : State) (n : Content) : (s.fixedContent n).kind = n.kind := by cases n <;> rfl

/-- A first attempt leaves a note within its table. -/
theorem noteSound_begun {n : TxNote} (h : noteSound n = true) (waiting : n.state = .waiting) (q : Byte) :
    noteSound { n with content := s.fixedContent n.content, state := .underWay, seq := some q } = true := by
  simp only [noteSound, waiting] at h ⊢
  cases hc : n.content <;> simp_all [State.fixedContent, Content.kind]

/-- A note that has begun waits beside every other. -/
theorem mayWaitTogether_of_begun (k : TxNote) {n : TxNote} (begun : n.state ≠ .waiting) : mayWaitTogether k n = true := by
  unfold mayWaitTogether
  split
  · simp [begun]
  · rfl

theorem not_sending_of_mayBegin (h : s.mayBegin = true) : ∀ m ∈ s.xmt.buffer, m.state ≠ .underWay := by
  simp only [State.mayBegin, State.sending, Bool.and_eq_true, Bool.not_eq_true', List.any_eq_false] at h
  exact fun m hm => by simpa using h.2 m hm

/-- A buffer with a note is one of a station that takes part on the bus. -/
theorem not_silent_of_split {before after : List TxNote} {n : TxNote} (split : s.xmt.buffer = before ++ n :: after)
    (silent : (s.ctl.station = .unconfigured ∨ ∃ r, s.ctl.station = .mute r) → s.xmt.buffer = []) :
    ¬ (s.ctl.station = .unconfigured ∨ ∃ r, s.ctl.station = .mute r) := fun h => by simpa [split] using silent h

theorem firstAttempt_keeps {before after : List TxNote} {n : TxNote} (split : s.xmt.buffer = before ++ n :: after)
    (waiting : n.state = .waiting) (unbegun : ∀ m ∈ s.xmt.buffer, m.state = .waiting) :
    Keeps p s (s.firstAttempt before.length n) where
  tracker _ _ := fun ⟨fifo, blind, level, oet, answers, apart, eligible, ages, idle⟩ =>
    ⟨fifo, blind, level, oet, answers, apart, eligible, ages, fun hr hq => by
      simp only [State.firstAttempt, idle hr hq, Tracker.reset, ite_self]⟩
  buffer _ h := by
    obtain ⟨list, budget, unstored, silent⟩ := (bufferSound_iff s).1 h
    have spent : (s.firstAttempt before.length n).xmt.budget ≤ s.xmt.budget := by
      simp only [State.firstAttempt]; split <;> omega
    refine (bufferSound_iff _).2 ⟨?_, fun d hd => spent.trans (budget d hd), fun none => Nat.le_zero.1 (unstored none ▸ spent), fun hs =>
      absurd hs (not_silent_of_split (s := s) split silent)⟩
    simp only [State.firstAttempt, split, set_append_cons_length]
    rw [split] at list unbegun
    exact list.replace rfl (fun sound => noteSound_begun sound waiting _) (fun k _ => mayWaitTogether_of_begun k (by simp))
      fun _ => .inr unbegun

/-- A note that has begun may go on to another stage of its attempts. -/
theorem stage_keeps {before after : List TxNote} {n : TxNote} (split : s.xmt.buffer = before ++ n :: after) (begun : n.state ≠ .waiting)
    (stage : NoteState) (still : stage ≠ .waiting) (attempts : Nat) (bound : n.attempts < 4 → attempts < 4) :
    Keeps p s (s.setBuffer (before ++ { n with state := stage, attempts := attempts } :: after)) where
  buffer _ h := by
    obtain ⟨list, budget, unstored, silent⟩ := (bufferSound_iff s).1 h
    refine (bufferSound_iff _).2 ⟨?_, budget, unstored, fun hs => absurd hs (not_silent_of_split (s := s) split silent)⟩
    rw [split] at list
    refine list.replace rfl (fun sound => ?_) (fun k _ => mayWaitTogether_of_begun k still) fun _ => .inl begun
    simp only [noteSound, begun, still, false_iff, Bool.and_eq_true, decide_eq_true_eq] at sound ⊢
    obtain ⟨⟨pool, few⟩, content⟩ := sound
    exact ⟨⟨pool, bound few⟩, content⟩

theorem begin_keeps (s : State) : Keeps p s s.begin := by
  obtain e | ⟨may, before, n, after, split, _, ⟨retry, e⟩ | ⟨waiting, others, e⟩⟩ := begin_cases s <;> rw [e]
  · exact .refl s
  · have staged := stage_keeps (p := p) split (by simp [retry]) .underWay (by simp) n.attempts id
    have idle (t : State) : Keeps p t { t with rcv := { t.rcv with idleCount := 0 } } := {}
    have same : s.retryAttempt before.length n =
        { s.setBuffer (before ++ { n with state := .underWay, attempts := n.attempts } :: after) with
          rcv := { s.rcv with idleCount := 0 } } := by
      simp only [State.retryAttempt, split, set_append_cons_length]; rfl
    rw [same]
    exact staged.trans (idle _)
  · refine firstAttempt_keeps split waiting fun m hm => ?_
    have notUnderWay := not_sending_of_mayBegin may m hm
    have notRetry := others m hm
    cases h : m.state <;> simp_all

theorem eraseIdx_keeps (i : Nat) (s : State) : Keeps p s (s.setBuffer (s.xmt.buffer.eraseIdx i)) :=
  setBuffer_keeps_of_sublist (List.eraseIdx_sublist _ _)

theorem returnToBuffer_keeps {before after : List TxNote} {n : TxNote} (split : s.xmt.buffer = before ++ n :: after)
    (underWay : n.state = .underWay) : Keeps p s (s.returnToBuffer before.length n) :=
  .ite (fun _ => eraseIdx_keeps _ s) fun _ => by
    have staged := stage_keeps (p := p) split (by simp [underWay]) .retryHead (by simp) n.attempts id
    rwa [split, set_append_cons_length]

theorem loseArbitration_keeps (line : Byte) (s : State) : Keeps p s (s.loseArbitration line) := by
  unfold State.loseArbitration
  split
  · rename_i i found
    obtain ⟨before, n, after, split, rfl, underWay, -⟩ := underWayAt_eq_some found
    simp only [split, getElem?_append_cons_length]
    exact .ite_self fun _ => returnToBuffer_keeps split underWay
  · exact .refl s

theorem failAttempt_keeps (s : State) : Keeps p s s.failAttempt := by
  unfold State.failAttempt
  split
  · rename_i i found
    obtain ⟨before, n, after, split, rfl, underWay, -⟩ := underWayAt_eq_some found
    have erased := eraseIdx_keeps (p := p) before.length s
    simp only [split, getElem?_append_cons_length, set_append_cons_length] at erased ⊢
    exact .ite (fun _ => erased) fun _ =>
      .ite (fun few => stage_keeps split (by simp [underWay]) .retryHead (by simp) (n.attempts + 1) fun _ => few) fun _ =>
        (erased.trans (latchFlag_keeps _ _)).trans (post_keeps _ _)
  · exact .refl s

theorem completeAttempt_keeps (s : State) : Keeps p s s.completeAttempt := by
  unfold State.completeAttempt
  split
  · exact (eraseIdx_keeps _ s).trans (lineBusy_keeps _)
  · exact .refl s

theorem goIdle_keeps (s : State) : Keeps p s s.goIdle := .ite_self fun _ => lineIdle_keeps s

end Sys2Proof.Machine
end

section
/-! What settling does and keeps: the requests, expiries and boundary work that stand partway are finished, and nothing else is begun. -/

namespace Sys2Proof.Machine

open Sys2Proof.Safety

variable {p : Allowance} {s : State} {c : ConfigRecord}

/-! ### What boundary work leaves alone -/

theorem evidenceUpTo_frame (c : ConfigRecord) (k : Nat) (s : State) :
    EngineFrame (s.setEvidenceDue (if 6 ≤ k then 0 else k)) (s.evidenceUpTo c k) := by
  have step {q : Prop} [Decidable q] {t u v : State} (h : EngineFrame t u) (k : EngineFrame u v) : EngineFrame t (if q then v else u) := by
    split
    · exact h.trans k
    · exact h
  exact step (step (step (step (step (.refl _) (mapRecords_frame _ _)) (mapRecords_frame _ _)) (applyDue_frame c _))
    (evaluateAll_frame c _)) (mapRecords_frame _ _)

theorem evidenceUpTo_trk (c : ConfigRecord) (k : Nat) (s : State) : (s.evidenceUpTo c k).trk = s.trk := (evidenceUpTo_frame c k s).trk

theorem evidenceUpTo_due (c : ConfigRecord) (k : Nat) (s : State) :
    (s.evidenceUpTo c k).due = { s.due with evidence := if 6 ≤ k then 0 else k } := (evidenceUpTo_frame c k s).due

/-- Lapse counters advance in the roster; only notices follow. -/
theorem advanceLapse_eq (c : ConfigRecord) (x : Nat) (s : State) :
    s.advanceLapse c x = { s with rcv := (s.advanceLapse c x).rcv, lnk := (s.advanceLapse c x).lnk } := by
  unfold State.advanceLapse; dsimp only
  split
  · split
    · unfold State.post; dsimp only; split <;> rfl
    · rfl
  · rfl

theorem advanceLapses_eq (c : ConfigRecord) (s : State) :
    s.advanceLapses c = { s with rcv := (s.advanceLapses c).rcv, lnk := (s.advanceLapses c).lnk } := by
  unfold State.advanceLapses
  induction slots generalizing s with
  | nil => rfl
  | cons x rest ih => rw [List.foldl_cons, ih, advanceLapse_eq]

/-- The first three steps of the Note Receiver's work stay in the roster and the notice queue. -/
theorem receiverUpTo_trk_due (c : ConfigRecord) (k : Nat) (s : State) :
    (s.receiverUpTo c k).trk = s.trk ∧ (s.receiverUpTo c k).due = { s.due with receiver := if 5 ≤ k then 0 else k } := by
  have lapses (t : State) : (t.advanceLapses c).trk = t.trk ∧ (t.advanceLapses c).due = t.due := by rw [advanceLapses_eq]; exact ⟨rfl, rfl⟩
  have quorum (t : State) : (t.peerQuorum c).trk = t.trk ∧ (t.peerQuorum c).due = t.due :=
    ⟨(peerQuorum_frame c t).trk, (peerQuorum_frame c t).due⟩
  have step {q : Prop} [Decidable q] {t u : State} (base : t.trk = s.trk ∧ t.due = s.due) (same : u.trk = t.trk ∧ u.due = t.due) :
      (if q then u else t).trk = s.trk ∧ (if q then u else t).due = s.due := by
    split
    · exact ⟨same.1.trans base.1, same.2.trans base.2⟩
    · exact base
  obtain ⟨trk, due⟩ := step (q := s.due.receiver ≤ 4 ∧ 4 < k) (step (q := s.due.receiver ≤ 3 ∧ 3 < k)
    (step (q := s.due.receiver ≤ 2 ∧ 2 < k) (u := State.lowerMutes _)
      (step (q := s.due.receiver ≤ 1 ∧ 1 < k) (t := s) (u := s.clearCounts) ⟨rfl, rfl⟩ ⟨rfl, rfl⟩) ⟨rfl, rfl⟩) (lapses _)) (quorum _)
  exact ⟨trk, congrArg (fun d : Due => { d with receiver := if 5 ≤ k then 0 else k }) due⟩

theorem expireOldest_due (c : ConfigRecord) (s : State) : (s.expireOldest c).due = s.due := by
  unfold State.expireOldest
  split
  · dsimp only
    split
    · rfl
    · exact (observe_frame c _ _ _ _).elim fun _ h => h.due
  · rfl

theorem expireTimes_due (c : ConfigRecord) : ∀ (n : Nat) (s : State), (s.expireTimes c n).due = s.due
  | 0, _ => rfl
  | n + 1, s => (expireTimes_due c n _).trans (expireOldest_due c s)

theorem expireAll_due (c : ConfigRecord) (s : State) : (s.expireAll c).due = s.due := expireTimes_due c _ s

/-! ### What each part of settling keeps -/

theorem finishRun_keeps (s : State) : Keeps p s s.finishRun := by
  unfold State.finishRun
  split
  · rename_i c hc
    exact (carryOutAll_keeps s.due.run hc fun r hr => .inl hr).andThen hc fun hc => due_keeps _ (by simp [hc]) fun _ r hr => by cases hr
  · exact .refl s

theorem finishExpiries_keeps (s : State) : Keeps p s s.finishExpiries := by
  unfold State.finishExpiries
  split
  · exact expireAll_keeps ‹_›
  · exact .refl s

theorem finishEvidence_keeps (s : State) : Keeps p s s.finishEvidence := by
  unfold State.finishEvidence
  split
  · exact .ite_self fun _ => evidenceUpTo_keeps ‹_› 6
  · exact .refl s

theorem finishReceiver_keeps (s : State) : Keeps p s s.finishReceiver := by
  unfold State.finishReceiver
  split
  · exact .ite_self fun _ => receiverUpTo_keeps ‹_› 5
  · exact .refl s

theorem finishEvidenceForView_keeps (s : State) : Keeps p s s.finishEvidenceForView := by
  unfold State.finishEvidenceForView
  split
  · exact .ite (fun _ => evidenceUpTo_keeps ‹_› 3) fun _ => .ite_self fun _ => evidenceUpTo_keeps ‹_› 6
  · exact .refl s

theorem finishWorks_keeps (s : State) : Keeps p s s.finishWorks :=
  ((finishExpiries_keeps s).trans (finishEvidence_keeps _)).trans (finishReceiver_keeps _)

theorem finishForView_keeps (s : State) : Keeps p s s.finishForView :=
  ((finishExpiries_keeps s).trans (finishEvidenceForView_keeps _)).trans (finishReceiver_keeps _)

theorem settle_keeps (s : State) : Keeps p s s.settle := (finishRun_keeps s).trans (finishWorks_keeps _)

/-! ### What is left partway -/

theorem finishRun_due (hc : s.ctl.config = some c) : s.finishRun.due = { s.due with run := [] } := by
  simp only [State.finishRun, hc, carryOutAll_due]

theorem finishExpiries_due (s : State) : s.finishExpiries.due = s.due := by
  unfold State.finishExpiries
  split
  · exact expireAll_due _ s
  · rfl

theorem finishExpiries_ages (hc : s.ctl.config = some c) : ∀ e ∈ s.finishExpiries.trk.oet, e.age < 4 := by
  simp only [State.finishExpiries, hc]
  exact expireAll_oet c s

theorem finishEvidence_trk (s : State) : s.finishEvidence.trk = s.trk := by
  unfold State.finishEvidence
  split
  · split
    · exact evidenceUpTo_trk _ 6 s
    · rfl
  · rfl

theorem finishEvidence_due (hc : s.ctl.config = some c) :
    s.finishEvidence.due = { s.due with evidence := if 2 ≤ s.due.evidence then 0 else s.due.evidence } := by
  simp only [State.finishEvidence, hc]
  split
  · exact evidenceUpTo_due c 6 s
  · rfl

theorem finishReceiver_trk (s : State) : s.finishReceiver.trk = s.trk := by
  unfold State.finishReceiver
  split
  · split
    · exact (receiverUpTo_trk_due _ 5 s).1
    · rfl
  · rfl

theorem finishReceiver_due (hc : s.ctl.config = some c) :
    s.finishReceiver.due = { s.due with receiver := if 2 ≤ s.due.receiver then 0 else s.due.receiver } := by
  simp only [State.finishReceiver, hc]
  split
  · exact (receiverUpTo_trk_due c 5 s).2
  · rfl

/-- What is due after the works: what was due before them, without what stood partway. -/
theorem finishWorks_due (hc : s.ctl.config = some c) :
    s.finishWorks.due = { s.due with evidence := if 2 ≤ s.due.evidence then 0 else s.due.evidence,
                                     receiver := if 2 ≤ s.due.receiver then 0 else s.due.receiver } := by
  have hc1 := (finishExpiries_stationFrame s).config.trans hc
  have hc2 := (finishEvidence_stationFrame _).config.trans hc1
  rw [State.finishWorks, finishReceiver_due hc2, finishEvidence_due hc1, finishExpiries_due]

theorem finishWorks_ages (hc : s.ctl.config = some c) : ∀ e ∈ s.finishWorks.trk.oet, e.age < 4 := by
  rw [State.finishWorks, finishReceiver_trk, finishEvidence_trk]
  exact finishExpiries_ages hc

/-- After the works nothing of a request is partway. -/
theorem readable_finishWorks (hc : s.ctl.config = some c) : Readable s.finishWorks := by
  refine ⟨finishWorks_ages hc, ?_, ?_⟩ <;> rw [finishWorks_due hc] <;> dsimp only <;> split <;> omega

theorem settle_due (hc : s.ctl.config = some c) :
    s.settle.due = { s.due with run := [], evidence := if 2 ≤ s.due.evidence then 0 else s.due.evidence,
                                receiver := if 2 ≤ s.due.receiver then 0 else s.due.receiver } := by
  rw [State.settle, finishWorks_due ((finishRun_stationFrame s).config.trans hc), finishRun_due hc]

/-- A configured station settles to a state with nothing partway. -/
theorem quiet_settle (hc : s.ctl.config = some c) : Quiet s.settle :=
  ⟨readable_finishWorks ((finishRun_stationFrame s).config.trans hc), by rw [settle_due hc]⟩

/-- Without a record there is nothing to finish. -/
theorem settle_of_config_none (hc : s.ctl.config = none) : s.settle = s := by
  have run : s.finishRun = s := by unfold State.finishRun; rw [hc]
  have expiries : s.finishExpiries = s := by unfold State.finishExpiries; rw [hc]
  have evidence : s.finishEvidence = s := by unfold State.finishEvidence; rw [hc]
  have receiver : s.finishReceiver = s := by unfold State.finishReceiver; rw [hc]
  rw [State.settle, State.finishWorks, run, expiries, evidence, receiver]

/-- The table of a sound tracker holds nothing without a record. -/
theorem tracker_eq_reset_of_config_none (hC : ControllerSound s) (h : TrackerSound s) (hc : s.ctl.config = none) : s.trk = Tracker.reset := by
  obtain ⟨-, station, -⟩ := hC
  obtain ⟨-, -, -, -, -, -, -, -, idle⟩ := h
  obtain e | e := station.1 hc <;> exact idle (by simp [e]) (by simp [e])

/-- In the settled state no entry's age has reached 4. -/
theorem settle_ages (hC : ControllerSound s.settle) (h : TrackerSound s.settle) : ∀ e ∈ s.settle.trk.oet, e.age < 4 := by
  cases hc : s.ctl.config with
  | some c => exact (quiet_settle hc).1.1
  | none =>
    rw [tracker_eq_reset_of_config_none hC h ((settle_stationFrame s).config.trans hc)]
    simp [Tracker.reset]

theorem catchUp_keeps (hc : s.ctl.config = some c) : Keeps p s (s.catchUp c) := by
  have ticked : Keeps p s (s.settle.allClassTicks c) := (settle_keeps s).andThen hc fun hc' => allClassTicks_keeps hc' (quiet_settle hc).1.1
  have crossed : Keeps p s (if (s.settle.allClassTicks c).due.boundary then (s.settle.allClassTicks c).crossBoundary
      else s.settle.allClassTicks c) := .ite (fun boundary => ticked.trans (crossBoundary_keeps boundary)) fun _ => ticked
  exact (((((crossed.trans (blindWork_keeps _)).andThen hc fun hc => evidenceWork_keeps hc).andThen hc fun hc =>
    receiverWork_keeps hc).andThen hc fun hc => transmitterWork_keeps hc).andThen hc fun hc => enrolmentWork_keeps hc)

/-- The tick counts on and marks what falls at it. -/
theorem advanceCount_keeps (hc : s.ctl.config = some c) : Keeps p s (s.advanceCount c) :=
  { due_keeps_of_run_eq (p := p) hc (s.advanceCount c).due rfl with
    controller := fun h => by
      obtain ⟨serial, station, reset, stored, -, rest⟩ := h
      exact ⟨serial, station, reset, stored, fun none => absurd (hc.symm.trans none) nofun, rest⟩ }

end Sys2Proof.Machine
end

section
/-! What each command keeps: one lemma over the commands, from which the statements about the whole machine are read off. -/

namespace Sys2Proof.Machine

open Sys2Proof.Safety

variable {p : Allowance} {s : State} {c : ConfigRecord}

theorem StationFrame.ownSlot {t : State} (h : StationFrame s t) : t.ownSlot = s.ownSlot := by
  unfold State.ownSlot; rw [h.ctl]

/-! ### RELEASE -/

theorem dropAgainst_keeps (x : Nat) (s : State) : Keeps p s (s.dropAgainst x) := setAccusations_keeps_of_sublist List.filter_sublist

theorem unlatch_keeps (may : p.unlatched) (s : State) : Keeps p s { s with ctl := { s.ctl with latch := false } } where
  controller := fun ⟨serial, station, reset, stored, unstored, slot, armed, _, rest⟩ =>
    ⟨serial, station, reset, stored, unstored, slot, armed, fun _ => rfl, rest⟩
  latch _ := .inr may

theorem clearOwnRecord_ctl (c : ConfigRecord) (s : State) : (s.clearOwnRecord c).ctl = s.ctl := by
  unfold State.clearOwnRecord; dsimp only
  split
  · unfold State.clearRecord State.changeStanding; dsimp only
    split
    · rfl
    · rw [State.post_ctl]; rfl
  · rfl

theorem clearOwnRecord_keeps (hc : s.ctl.config = some c) (wiped : ∀ y, isSlot y = true → y - 1 = s.ownSlot - 1 → p.wiped y) :
    Keeps p s (s.clearOwnRecord c) :=
  .ite (fun _ => clearRecord_keeps hc _ _ wiped) fun _ => setRecord_keeps s.ownSlot _ (fun hC _ => by
    have ⟨_, _, _, _, _, _, _, _, _, _, probation, _⟩ := configSound_of hc hC
    exact ⟨Nat.zero_le _, probation.2, Nat.zero_le _, List.Pairwise.nil, fun _ => rfl⟩) fun _ => .inr wiped

theorem releaseOwn_keeps (hc : s.ctl.config = some c) (quarantined : s.ctl.station = .quarantined) (may : p.unlatched)
    (wiped : ∀ y, isSlot y = true → y - 1 = s.ownSlot - 1 → p.wiped y) : Keeps p s (s.releaseOwn c) := by
  let unlatched : State := { s with ctl := { s.ctl with latch := false } }
  let cleared := ((unlatched.dropAgainst unlatched.ownSlot).clearOwnRecord c).mapRoster fun e => { e with condemnsMe := false }
  have ctl : cleared.ctl = { s.ctl with latch := false } := clearOwnRecord_ctl c _
  have kept : Keeps p s cleared := (((unlatch_keeps may s).trans (dropAgainst_keeps _ _)).andThen hc fun hc =>
    clearOwnRecord_keeps hc wiped).trans (mapRoster_keeps (fun e => { e with condemnsMe := false }) (fun _ _ h => h) _)
  have running : Keeps p cleared { cleared with ctl := { cleared.ctl with station := .running } } :=
    run_keeps (c := c) (by rw [ctl]; exact hc) cleared.ctl.enrolCount (fun hC => (configured_of hC (by rw [ctl]; exact hc)).count)
      (by rw [ctl]) cleared.ctl.held (.inr ⟨rfl, by simp [ctl, quarantined]⟩)
  exact (kept.trans running).trans (post_keeps _ _)

theorem takeOwnRelease_keeps (s : State) (may : (s.ctl.station = .quarantined ∨ ∃ r, s.ctl.station = .mute r) → p.unlatched)
    (wiped : ∀ y, isSlot y = true → y - 1 = s.ownSlot - 1 → p.wiped y) : Keeps p s s.takeOwnRelease.1 := by
  unfold State.takeOwnRelease
  split
  · exact releaseOwn_keeps ‹_› ‹_› (may (.inl ‹_›)) wiped
  · rename_i r muted
    split
    · exact (unlatch_keeps (may (.inr ⟨r, muted⟩)) s).trans (post_keeps _ _)
    · exact .refl s
  · exact .refl s

theorem takePeerRelease_keeps (x : Nat) (s : State) (wiped : ∀ y, isSlot y = true → y - 1 = x - 1 → p.wiped y) :
    Keeps p s (s.takePeerRelease x).1 := by
  unfold State.takePeerRelease
  split
  · rename_i hc
    split
    · exact (dropAgainst_keeps x s).andThen hc fun hc => clearRecord_keeps hc x _ wiped
    · exact .refl s
  · exact .refl s

theorem takeRelease_keeps (x : Nat) (s : State) (wiped : p.wiped x)
    (may : isSlot x = true → x = s.ownSlot → (s.ctl.station = .quarantined ∨ ∃ r, s.ctl.station = .mute r) → p.unlatched) :
    Keeps p s (s.takeRelease x) := by
  refine .ite (fun _ => respond_keeps _ _ s) fun hx => Keeps.trans ?_ (respond_keeps _ _ _)
  rw [Bool.not_eq_true', Bool.not_eq_false] at hx
  have only (y : Nat) (hy : isSlot y = true) (same : y - 1 = x - 1) : p.wiped y := eq_of_isSlot_of_sub_eq hx hy same ▸ wiped
  split
  · rename_i own
    exact takeOwnRelease_keeps s (may hx own) (own ▸ only)
  · exact takePeerRelease_keeps x s only

/-! ### Leaving reset, the clock fault and CONFIGURE refused -/

theorem sampleStraps_keeps (slotStrap : BitVec 5) (roleStrap : BitVec 2) (reset : s.ctl.inReset = true) :
    Keeps p s (s.sampleStraps slotStrap roleStrap) := by
  have unstored (hC : ControllerSound s) : s.ctl.config = none := by
    obtain ⟨-, station, inReset, -⟩ := hC
    exact station.2 (.inl (inReset reset))
  have sampled (st : Station) (hst : st = .unconfigured ∧ isSlot slotStrap.toNat = true ∨ st = .mute .badStrap) :
      Keeps p s { s with ctl := { s.ctl with inReset := false, slotStrap := slotStrap, role := strapRole roleStrap, station := st } } :=
    { controller := fun hC => by
        have none := unstored hC
        obtain ⟨serial, -, inReset, stored, idle, slot, armed, unlatched, held, count, period⟩ := hC
        have dropped : s.ctl.held = .none := by_contra fun h => by
          have := held h
          rw [inReset reset] at this; cases this
        refine ⟨serial, iff_of_true none (hst.imp And.left id), nofun, fun d hd => absurd (none.symm.trans hd) nofun, idle,
          fun e _ => ?_, armed, fun e => ?_, fun h => absurd dropped h, count, fun e => ?_⟩
        · obtain ⟨-, good⟩ | muted := hst
          · exact good
          · rw [muted] at e; cases e
        all_goals obtain ⟨e', -⟩ | e' := hst <;> rw [e'] at e <;> cases e
      tracker := fun _ hC ⟨fifo, blind, level, oet, answers, apart, eligible, ages, idle⟩ =>
        ⟨fifo, blind, level, oet, answers, apart, eligible, ages, fun _ _ => by
          obtain ⟨-, -, inReset, -⟩ := hC
          exact idle (by simp [inReset reset]) (by simp [inReset reset])⟩
      buffer := fun hC h => by
        obtain ⟨list, budget, none, silent⟩ := (bufferSound_iff s).1 h
        obtain ⟨-, -, inReset, -⟩ := hC
        exact (bufferSound_iff _).2 ⟨list, budget, none, fun _ => silent (.inl (inReset reset))⟩ }
  refine .ite (fun good => ?_) fun _ => (sampled _ (.inr rfl)).trans (post_keeps _ _)
  refine (sampled .unconfigured (.inl ⟨rfl, good⟩)).trans (setEntry_keeps _ _ fun _ hC ⟨⟨_, lapse, accepted, mute⟩, _, unmoved⟩ => ?_)
  have none : s.ctl.config = .none := by
    obtain ⟨-, station, -⟩ := hC
    exact station.2 (.inl rfl)
  refine ⟨⟨⟨nofun, fun e => ?_⟩, lapse, accepted, mute⟩, fun d hd => absurd (none.symm.trans hd) nofun, unmoved⟩
  obtain ⟨serial, -⟩ := hC
  exact absurd e serial

theorem faultState_keeps (hc : s.ctl.config = some c) : Keeps p s (s.faultState c) := by
  unfold State.faultState
  cases hs : s.ctl.station with
  | enrolling => exact enterMute_keeps hc _ nofun
  | running => exact enterMute_keeps hc _ nofun
  | quarantined => exact enterMute_keeps hc _ nofun
  | unconfigured => exact .refl s
  | mute r =>
    refine Keeps.trans ?_ (post_keeps _ _)
    exact
      { controller := fun hC => by
          obtain ⟨serial, configured, strapped, released, sound, slot, digest, armed, _, held, count, _⟩ := configured_of hC hc
          exact Configured.controllerSound ⟨serial, nofun, nofun, released, sound, slot, digest, armed, nofun, fun h =>
            (by have := held h; rw [hs] at this; cases this), count, nofun⟩ hc
        tracker := fun _ _ ⟨fifo, blind, level, oet, answers, apart, eligible, ages, idle⟩ =>
          ⟨fifo, blind, level, oet, answers, apart, eligible, ages, fun _ _ => idle (by simp [hs]) (by simp [hs])⟩
        buffer := fun _ h => by
          obtain ⟨list, budget, none, silent⟩ := (bufferSound_iff s).1 h
          exact (bufferSound_iff _).2 ⟨list, budget, none, fun _ => silent (.inr ⟨r, hs⟩)⟩ }

theorem moveTick_keeps (hc : s.ctl.config = some c) (source : TickSource) :
    Keeps p s { s with ctl := { s.ctl with tickSource := source } } where
  controller := fun ⟨serial, station, reset, stored, _, rest⟩ =>
    ⟨serial, station, reset, stored, fun none => absurd (hc.symm.trans none) nofun, rest⟩

/-! ### The commands -/

/-- The notes that may end a condemnation: an ENROL or BEACON of another serial than the slot's (R134), read from the bytes of a reception
as well. -/
def replaces (i : Instr) (s : State) (x : Nat) : Prop :=
  (∃ d, identityOf i = some d ∧ d.slot = x ∧ d.serial ≠ (s.settle.entry x).serial) ∨
    ∃ bytes ending n j d, i = .receiveGarbledNote ⟨bytes, ending⟩ ∧ judge bytes = some n ∧ j = receiveOf n ∧
      identityOf j = some d ∧ d.slot = x ∧ d.serial ≠ (s.settle.entry x).serial

/-- What a command may end: a condemnation by a release or a replacement, the latch by the own release; and it has the tracker's laws to
go by. -/
def allowed (i : Instr) (s : State) : Allowance where
  tracked := ControllerSound s ∧ TrackerSound s
  rostered := True
  wiped x := (∃ slot, i = .release slot ∧ slot.toNat = x) ∨ replaces i s x ∧ (s.settle.entry x).presence = .lapsed
  unlatched := ∃ slot, i = .release slot ∧ slot.toNat = s.ownSlot ∧ 1 ≤ s.ownSlot ∧ s.ownSlot ≤ 24 ∧
    (s.settle.ctl.station = .quarantined ∨ ∃ r, s.settle.ctl.station = .mute r)

/-- A command that answers a next state keeps what its allowance leaves. -/
def Answers (p : Allowance) (r : Result) (s : State) : Prop := ∃ t, r = .next t ∧ Keeps p s t

theorem settled_tracker (h : Keeps p s s.settle) (q : p.tracked) (laws : p.tracked → ControllerSound s ∧ TrackerSound s) :
    ControllerSound s.settle ∧ TrackerSound s.settle :=
  ⟨h.controller (laws q).1, h.tracker q (laws q).1 (laws q).2⟩

theorem execTakeTapRecord_keeps (laws : p.tracked → ControllerSound s ∧ TrackerSound s) : Answers p (execTakeTapRecord s) s := by
  refine ⟨_, rfl, (settle_keeps s).trans ?_⟩
  split
  · rename_i c r rest hc fifo
    refine (popTap_keeps (by rw [fifo]; exact List.sublist_cons_self r rest)).andThen hc fun hc => processRecord_keeps hc r fun q => ?_
    obtain ⟨-, -, -, -, -, -, -, -, -, idle⟩ := settled_tracker (settle_keeps s) q laws
    exact or_iff_not_imp_left.2 fun hr => by_contra fun hq => by
      have := idle hr hq
      rw [this] at fifo; cases fifo
  · exact .refl _
  · exact .refl _

theorem execClassTick_keeps (cls : Fin 4) (s : State) : Answers p (execClassTick cls s) s :=
  ⟨_, rfl, (settle_keeps s).trans (.ite_self fun _ => takeClassTick_keeps settle_ages)⟩

theorem execEvidenceBoundaryWork_keeps (s : State) : Answers p (execEvidenceBoundaryWork s) s := by
  refine ⟨_, rfl, (((finishRun_keeps s).trans (finishExpiries_keeps _)).trans (finishReceiver_keeps _)).trans ?_⟩
  split
  · exact evidenceWork_keeps ‹_›
  · exact .refl _

theorem execWitnessExpiry_keeps (accused witness : Nat) (s : State) : Answers p (execWitnessExpiry accused witness s) s := by
  refine ⟨_, rfl, (((finishRun_keeps s).trans (finishExpiries_keeps _)).trans (finishReceiver_keeps _)).trans ?_⟩
  split
  · exact .ite_self fun _ => (evidenceUpTo_keeps ‹_› 2).trans (setRecord_keeps accused _
      (fun _ ⟨score, probation, size, ordered, causeless⟩ =>
        ⟨score, probation, (List.length_filter_le _ _).trans size, ordered.filter _, causeless⟩) .inl)
  · exact .refl _

theorem execPendingEntryDue_keeps (s : State) : Answers p (execPendingEntryDue s) s := by
  refine ⟨_, rfl, (((finishRun_keeps s).trans (finishExpiries_keeps _)).trans (finishReceiver_keeps _)).trans ?_⟩
  split
  · split
    · exact .ite_self fun _ => ((evidenceUpTo_keeps ‹_› 3).trans (applyItem_keeps _ _ _ _ _ _)).trans
        (setAccusations_keeps_of_sublist List.eraseP_sublist)
    · exact .refl _
  · exact .refl _

theorem execProbationEnd_keeps (slot : Nat) (s : State) : Answers p (execProbationEnd slot s) s := by
  refine ⟨_, rfl, (((finishRun_keeps s).trans (finishExpiries_keeps _)).trans (finishReceiver_keeps _)).trans ?_⟩
  split
  · exact .ite_self fun _ => (evidenceUpTo_keeps ‹_› 5).trans (setRecord_keeps slot _
      (fun _ ⟨score, _, rest⟩ => ⟨score, Nat.zero_le _, rest⟩) .inl)
  · exact .refl _

theorem execNoteReceiverBoundaryWork_keeps (s : State) : Answers p (execNoteReceiverBoundaryWork s) s := by
  refine ⟨_, rfl, (((finishRun_keeps s).trans (finishExpiries_keeps _)).trans (finishEvidence_keeps _)).trans ?_⟩
  split
  · exact receiverWork_keeps ‹_›
  · exact .refl _

theorem execMuteEnd_keeps (slot : Nat) (s : State) : Answers p (execMuteEnd slot s) s := by
  refine ⟨_, rfl, (((finishRun_keeps s).trans (finishExpiries_keeps _)).trans (finishEvidence_keeps _)).trans ?_⟩
  split
  · exact .ite_self fun _ => (receiverUpTo_keeps ‹_› 2).trans (setEntry_keeps slot _
      fun _ _ ⟨⟨seen, lapse, accepted, _⟩, rest⟩ => ⟨⟨seen, lapse, accepted, Nat.zero_le _⟩, rest⟩)
  · exact .refl _

theorem execLapse_keeps (slot : Nat) (s : State) : Answers p (execLapse slot s) s := by
  refine ⟨_, rfl, (((finishRun_keeps s).trans (finishExpiries_keeps _)).trans (finishEvidence_keeps _)).trans ?_⟩
  split
  · exact .ite_self fun _ => (receiverUpTo_keeps ‹_› 3).andThen ‹_› fun hc => advanceLapse_keeps hc slot
  · exact .refl _

theorem execNoteTransmitterBoundaryWork_keeps (s : State) : Answers p (execNoteTransmitterBoundaryWork s) s := by
  refine ⟨_, rfl, (settle_keeps s).trans ?_⟩
  split
  · exact transmitterWork_keeps ‹_›
  · exact .refl _

theorem execEnrolmentStep_keeps (s : State) : Answers p (execEnrolmentStep s) s := by
  refine ⟨_, rfl, (settle_keeps s).trans ?_⟩
  split
  · exact enrolmentWork_keeps ‹_›
  · exact .refl _

theorem execEndOfEnrolment_keeps (s : State) : Answers p (execEndOfEnrolment s) s := by
  refine ⟨_, rfl, (settle_keeps s).trans ?_⟩
  split
  · exact .ite_self fun _ => enrolmentWork_keeps ‹_›
  · exact .refl _

theorem execMsTick_keeps (s : State) : Answers p (execMsTick s) s := by
  refine ⟨_, rfl, ?_⟩
  split
  · rename_i hc
    exact (catchUp_keeps hc).andThen hc fun hc => advanceCount_keeps hc
  · exact .refl s

theorem execOetEntryExpiry_keeps (s : State) : Answers p (execOetEntryExpiry s) s := by
  refine ⟨_, rfl, ?_⟩
  split
  · rename_i hc
    exact (finishRun_keeps s).andThen hc fun hc => expireOldest_keeps hc
  · exact .refl s

theorem execClockFault_keeps (s : State) : Answers p (execClockFault s) s := by
  refine ⟨_, rfl, (settle_keeps s).trans ?_⟩
  split
  · exact .ite_self fun _ => (moveTick_keeps ‹_› .rc).andThen ‹_› fun hc => faultState_keeps hc
  · exact .refl _

theorem execFlagsByteClocked_keeps (s : State) : Answers p (execFlagsByteClocked s) s := by
  refine ⟨_, rfl, (settle_keeps s).trans ?_⟩
  split
  · exact {}
  · exact .refl _

theorem execTakeNotice_keeps (s : State) : Answers p (execTakeNotice s) s := by
  refine ⟨_, rfl, (settle_keeps s).trans (.ite_self fun _ => ?_)⟩
  split
  · rename_i n rest notices
    refine (respond_keeps 0x30 ([statusOk] ++ noticeBytes n) s.settle).trans ?_
    exact { link := fun ⟨bound, _⟩ => ⟨bound, fun _ empty => absurd (notices.symm.trans empty) nofun⟩ }
  · exact respond_keeps _ _ _

theorem removeNotice_keeps (s : State) : Keeps p s { s with lnk := { s.lnk with notices := s.lnk.notices.tail, noticeOpen := false } } :=
  { link := fun ⟨bound, _⟩ => ⟨(by rw [List.length_tail]; omega), nofun⟩ }

/-- A note ends a condemnation only by a replacement. -/
theorem note_keeps (i : Instr) (n : Note) (s : State) (names : identityOf (receiveOf n) = identityOf i) :
    Keeps (allowed i s) s (s.settle.takeNote n) :=
  (settle_keeps s).trans (takeNote_keeps n _ fun d hd other lapsed => .inr ⟨.inl ⟨d, names ▸ hd, rfl, other⟩, lapsed⟩)

/-- Every command but a reset and CONFIGURE answers a state that keeps what it has to. -/
theorem exec_keeps (i : Instr) (s : State) (reset : isReset i = false) (configure : ∀ r, i ≠ .configure r) :
    Answers (allowed i s) (exec i s) s := by
  have settled : Keeps (allowed i s) s s.settle := settle_keeps s
  cases i with
  | powerOnReset => cases reset
  | resetNLow => cases reset
  | restartWarmReset => cases reset
  | configure r => exact absurd rfl (configure r)
  | leaveReset slotStrap roleStrap => exact ⟨_, rfl, .ite_self fun h => sampleStraps_keeps slotStrap roleStrap h⟩
  | tapRecord bytes => exact ⟨_, rfl, settled.trans (takeTapFrame_keeps _ _)⟩
  | tapRecordIncomplete bytes => exact ⟨_, rfl, settled.trans (takeTapFrame_keeps _ _)⟩
  | takeTapRecord => exact execTakeTapRecord_keeps id
  | msTick => exact execMsTick_keeps s
  | classTick cls => exact execClassTick_keeps cls s
  | oetEntryExpiry => exact execOetEntryExpiry_keeps s
  | epochBoundary => exact ⟨_, rfl, .ite (fun boundary => settled.trans (crossBoundary_keeps boundary)) fun _ => settled⟩
  | evidenceBoundaryWork => exact execEvidenceBoundaryWork_keeps s
  | witnessExpiry accused witness => exact execWitnessExpiry_keeps accused witness s
  | pendingEntryDue => exact execPendingEntryDue_keeps s
  | probationEnd slot => exact execProbationEnd_keeps slot s
  | blindPeriodEnd => exact ⟨_, rfl, settled.trans (blindWork_keeps _)⟩
  | noteReceiverBoundaryWork => exact execNoteReceiverBoundaryWork_keeps s
  | muteEnd slot => exact execMuteEnd_keeps slot s
  | lapse slot => exact execLapse_keeps slot s
  | noteTransmitterBoundaryWork => exact execNoteTransmitterBoundaryWork_keeps s
  | enrolmentStep => exact execEnrolmentStep_keeps s
  | endOfEnrolment => exact execEndOfEnrolment_keeps s
  | clockFault => exact execClockFault_keeps s
  | busIdle => exact ⟨_, rfl, settled.trans (goIdle_keeps _)⟩
  | beginAttempt => exact ⟨_, rfl, settled.trans (begin_keeps _)⟩
  | arbitrationLost line => exact ⟨_, rfl, settled.trans (loseArbitration_keeps line _)⟩
  | readBackFailure => exact ⟨_, rfl, settled.trans (failAttempt_keeps _)⟩
  | attemptComplete => exact ⟨_, rfl, settled.trans (completeAttempt_keeps _)⟩
  | receiveGarbledNote reception =>
    exact ⟨_, rfl, settled.trans (takeReception_keeps reception _ fun n d hn hd other lapsed =>
      .inr ⟨.inr ⟨_, _, n, _, d, rfl, hn, rfl, hd, rfl, other⟩, lapsed⟩)⟩
  | receiveEnrol note => exact ⟨_, rfl, note_keeps _ (.enrol note) s rfl⟩
  | receiveBeacon note => exact ⟨_, rfl, note_keeps _ (.beacon note) s rfl⟩
  | receiveAccuse note => exact ⟨_, rfl, note_keeps _ (.accuse note) s rfl⟩
  | receiveRebut note => exact ⟨_, rfl, note_keeps _ (.rebut note) s rfl⟩
  | readStatus => exact ⟨_, rfl, (finishWorks_keeps s).trans (.ite_self fun _ => { link := fun ⟨bound, _⟩ => ⟨bound, nofun⟩ })⟩
  | flagsByteClocked => exact execFlagsByteClocked_keeps s
  | readView slot => exact ⟨_, rfl, (finishForView_keeps s).trans (.ite_self fun _ => respond_keeps _ _ _)⟩
  | takeNotice => exact execTakeNotice_keeps s
  | noticeRemoved => exact ⟨_, rfl, settled.trans (.ite_self fun _ => removeNotice_keeps _)⟩
  | release slot =>
    refine ⟨_, rfl, settled.trans (.ite_self fun _ => takeRelease_keeps slot.toNat _ (.inl ⟨slot, rfl, rfl⟩) fun hx own state => ?_)⟩
    have own' : slot.toNat = s.ownSlot := own.trans (settle_stationFrame s).ownSlot
    simp only [isSlot, own', Bool.and_eq_true, decide_eq_true_eq] at hx
    exact ⟨slot, rfl, own', hx.1, hx.2, state⟩
  | restart => exact ⟨_, rfl, settled.trans (.ite_self fun _ => { link := fun ⟨bound, _⟩ => ⟨bound, nofun⟩ })⟩
  | unknownCommand command => exact ⟨_, rfl, settled.trans (.ite_self fun _ => respond_keeps _ _ _)⟩
  | commandAborted => exact ⟨_, rfl, settled.trans (.ite_self fun _ => abort_keeps _)⟩

end Sys2Proof.Machine
end

section
/-! The statements about the whole machine: what every command and every step keeps. A command keeps the relation of exec_keeps, or resets
the part, or is an accepted CONFIGURE; the last two are looked at here. -/

namespace Sys2Proof.Machine

open Sys2Proof.Safety

variable {s t : State} {c : ConfigRecord}

/-! ### The laws in the two states that do not keep the relation -/

/-- Which blocks' laws hold after a change where they held before. -/
structure KeepsLaws (s t : State) : Prop where
  controller : ControllerSound s → ControllerSound t
  tracker : ControllerSound s → TrackerSound s → TrackerSound t
  engine : ControllerSound s → EngineSound s → EngineSound t
  roster : ControllerSound s → RosterSound s → RosterSound t
  link : LinkSound s → LinkSound t
  buffer : ControllerSound s → BufferSound s → BufferSound t

/-- What every command leaves: the queue and the identity. -/
structure KeepsFrame (s t : State) : Prop where
  pending : t.pending = s.pending
  serial : t.ctl.serial = s.ctl.serial

theorem Keeps.laws {i : Instr} (h : Keeps (allowed i s) s t) : KeepsLaws s t :=
  ⟨h.controller, fun hC hT => h.tracker ⟨hC, hT⟩ hC hT, h.engine, h.roster trivial, h.link, h.buffer⟩

theorem Keeps.frame {p : Allowance} (h : Keeps p s t) : KeepsFrame s t := ⟨h.pending, h.serial⟩

theorem KeepsLaws.trans {u : State} (h : KeepsLaws s t) (k : KeepsLaws t u) : KeepsLaws s u :=
  ⟨fun a => k.controller (h.controller a), fun a b => k.tracker (h.controller a) (h.tracker a b),
    fun a b => k.engine (h.controller a) (h.engine a b), fun a b => k.roster (h.controller a) (h.roster a b),
    fun a => k.link (h.link a), fun a b => k.buffer (h.controller a) (h.buffer a b)⟩

/-! ### Resets -/

theorem recordSound_of_mem_reset {r : BoardRecord} (h : r ∈ Engine.reset.records) : RecordSound r :=
  List.eq_of_mem_replicate h ▸ recordSound_reset

theorem entrySound_of_mem_reset {e : RosterEntry} (h : e ∈ Receiver.reset.roster) : EntrySound e ∧ e.presence ≠ .present ∧ e.lapse = 0 := by
  rw [List.eq_of_mem_replicate h]; decide

theorem trackerSound_of_reset (h : s.trk = Tracker.reset) : TrackerSound s := by
  simp [TrackerSound, h, Tracker.reset]

theorem engineSound_of_reset (h : s.eng = Engine.reset) (run : s.due.run = []) : EngineSound s := by
  refine ⟨by rw [h]; rfl, fun r hr => recordSound_of_mem_reset (h ▸ hr), ?_⟩
  simp [h, run, Engine.reset]

theorem rosterSound_of_reset (h : s.rcv = Receiver.reset) : RosterSound s := by
  unfold RosterSound
  rw [h]
  exact ⟨rfl, fun e he => (entrySound_of_mem_reset he).1, fun _ _ e he present => absurd present (entrySound_of_mem_reset he).2.1,
    fun _ e he => (entrySound_of_mem_reset he).2.2⟩

theorem linkSound_of_reset (h : s.lnk = Link.reset) : LinkSound s := by simp [LinkSound, h, Link.reset]

theorem bufferSound_of_reset (h : s.xmt = Transmitter.reset) : BufferSound s :=
  (bufferSound_iff s).2 (by rw [h]; exact ⟨bufferLaws_nil, fun _ _ => Nat.zero_le _, fun _ => rfl, fun _ => rfl⟩)

theorem controllerSound_of_reset {serial : Word} {latch : Bool} (h : s.ctl = Controller.reset serial latch) (due : s.due = Due.none)
    (named : serial ≠ 0) : ControllerSound s := by
  rw [ControllerSound, h]
  refine ⟨named, iff_of_true rfl (.inl rfl), fun _ => rfl, nofun, fun _ => ⟨rfl, rfl, rfl, rfl, rfl, due⟩, nofun, rfl, nofun,
    fun h => absurd rfl h, Nat.zero_le _, nofun⟩

theorem intoReset_keepsLaws (latch : Bool) (s : State) : KeepsLaws s (s.intoReset latch) :=
  ⟨fun ⟨named, _⟩ => controllerSound_of_reset rfl rfl named, fun _ _ => trackerSound_of_reset rfl, fun _ _ => engineSound_of_reset rfl rfl,
    fun _ _ => rosterSound_of_reset rfl, fun _ => linkSound_of_reset rfl, fun _ _ => bufferSound_of_reset rfl⟩

theorem Config.serial_ne_zero : Config.serial ≠ 0 := by
  unfold Config.serial
  split
  · decide
  · assumption

/-- Settles O55: every block of the reset state stands at its reset values. -/
theorem resetIsSound : Obligations.ResetIsSound :=
  ⟨controllerSound_of_reset rfl rfl Config.serial_ne_zero, trackerSound_of_reset rfl, engineSound_of_reset rfl rfl,
    rosterSound_of_reset rfl, linkSound_of_reset rfl, bufferSound_of_reset rfl, by simp [Quiet, Readable, State.reset, Tracker.reset, Due.none],
    rfl, rfl⟩

/-! ### CONFIGURE -/

theorem HeldWithin.bounds {low high written stored : Nat} (h : HeldWithin low high written stored) (order : low ≤ high) :
    low ≤ stored ∧ stored ≤ high := by
  unfold HeldWithin at h; omega

/-- A record that R147 has clamped and R148 has passed is sound. -/
theorem configSound_configOf (r : List Byte) (ordered : thresholdsOrdered (configOf r) = true) (allowed : babbleAllowed (configOf r) = true) :
    ConfigSound (configOf r) := by
  simp only [thresholdsOrdered, babbleAllowed, Bool.and_eq_true, decide_eq_true_eq] at ordered allowed
  have range (low high : Nat) (h : low ≤ high) (i : Nat) := (heldWithin_clamp h (byteAt r i).toNat).bounds h
  have byte (low : Nat) (h : low ≤ 255) (i : Nat) := (heldWithin_max_byte low (byteAt r i)).bounds h
  have sample : (halfAt r 27 &&& halfAt r 25) &&& halfAt r 25 = halfAt r 27 &&& halfAt r 25 := by
    rw [BitVec.and_assoc, BitVec.and_self]
  refine ⟨Nat.min_le_left _ _, range 2 6 (by decide) 1, range 1 4 (by decide) 2, ⟨ordered.1.1, ordered.1.2, ordered.2, Nat.min_le_left _ _⟩,
    byte 1 (by decide) 12, byte 1 (by decide) 13, byte 1 (by decide) 14, byte 1 (by decide) 15, range 1 15 (by decide) 16,
    range 2 15 (by decide) 17, byte 1 (by decide) 18, range 1 32 (by decide) 19,
    ⟨(byte 4 (by decide) 20).1, (byte 4 (by decide) 20).2, allowed⟩, ⟨rfl, fun t ht => ?_⟩, sample,
    (range 16 64 (by decide) 32).1, (range 16 64 (by decide) 32).2, Nat.min_le_right _ _⟩
  simp only [configOf, List.mem_cons, List.not_mem_nil, or_false] at ht
  omega

/-- The storing of a sound record by an unconfigured station that has left reset (R146, R149). -/
theorem acceptConfig_keepsLaws (unconfigured : s.ctl.station = .unconfigured) (released : s.ctl.inReset = false) (sound : ConfigSound c) :
    KeepsLaws s (s.acceptConfig c) := by
  have unstored (hC : ControllerSound s) : s.ctl.config = none := by
    obtain ⟨-, station, -⟩ := hC
    exact station.2 (.inl unconfigured)
  refine KeepsLaws.trans (t := { s with
    ctl := { s.ctl with config := some c, digest := some (digestOf c), msCount := 0, epoch := 0, enrolCount := 0, monitorArmed := true,
                        station := .enrolling },
    rcv := { s.rcv with idleCount := 0, rxReady := false } }) ?_ (Keeps.laws (i := .msTick) (queueEnrol_keeps rfl))
  refine ⟨fun hC => ?_, fun _ hT => ?_, fun _ h => h, fun hC h => ?_, fun h => h, fun hC h => ?_⟩
  · obtain ⟨serial, -, -, -, -, slot, -⟩ := hC
    refine Configured.controllerSound ⟨serial, nofun, nofun, released, sound, slot unconfigured released, rfl, rfl, nofun, fun _ => rfl,
      Nat.zero_le _, fun _ => Nat.zero_le _⟩ rfl
  · obtain ⟨-, -, -, -, -, -, -, -, idle⟩ := hT
    exact trackerSound_of_reset (idle (by simp [unconfigured]) (by simp [unconfigured]))
  · obtain ⟨length, entries, -, unmoved⟩ := h
    have ⟨_, _, _, _, _, _, _, _, _, lapse, _⟩ := sound
    refine ⟨length, entries, fun d hd e he _ => ?_, nofun⟩
    obtain rfl : c = d := by simpa using hd
    rw [unmoved (unstored hC) e he]; omega
  · obtain ⟨-, -, unfunded, silent⟩ := (bufferSound_iff s).1 h
    have empty := silent (.inl unconfigured)
    refine (bufferSound_iff _).2 ⟨?_, fun d hd => ?_, nofun, fun _ => empty⟩
    · show BufferLaws s.xmt.buffer
      rw [empty]; exact bufferLaws_nil
    · exact (unfunded (unstored hC)).trans_le (Nat.zero_le _)

/-! ### Every command -/

/-- Every command keeps the relation, or resets the part, or is an accepted CONFIGURE. -/
theorem exec_cases (i : Instr) (s : State) :
    Answers (allowed i s) (exec i s) s ∨
    (isReset i = true ∧ ∃ latch, exec i s = .next (s.intoReset latch) ∧ (latch = s.ctl.latch ∨ i = .powerOnReset)) ∨
    (∃ r c, i = .configure r ∧ exec i s = .next ((s.settle.acceptConfig c).respond 0x10 [statusOk]) ∧ ConfigSound c ∧
      s.settle.ctl.station = .unconfigured ∧ s.settle.ctl.inReset = false) := by
  by_cases reset : isReset i = true
  · cases i with
    | powerOnReset => exact .inr (.inl ⟨rfl, false, rfl, .inr rfl⟩)
    | resetNLow => exact .inr (.inl ⟨rfl, _, rfl, .inl rfl⟩)
    | restartWarmReset =>
      by_cases waits : s.lnk.restartOpen = true
      · exact .inr (.inl ⟨rfl, s.ctl.latch, by simp only [exec, execRestartWarmReset, waits, if_true], .inl rfl⟩)
      · exact .inl ⟨s, by simp only [exec, execRestartWarmReset, waits, Bool.false_eq_true, if_false], .refl s⟩
    | _ => cases reset
  · by_cases configure : ∃ r, i = .configure r
    · obtain ⟨r, rfl⟩ := configure
      have settled : Keeps (allowed (.configure r) s) s s.settle := settle_keeps s
      by_cases linked : s.settle.linkOpen = true
      · by_cases short : r.length < 34
        · exact .inl ⟨s.settle.abort, by simp [exec, execConfigure, linked, short], settled.trans (abort_keeps _)⟩
        have taken : exec (.configure r) s = .next (s.settle.takeConfigure (r.take 34)) := by simp [exec, execConfigure, linked, short]
        rw [taken]
        unfold State.takeConfigure
        split_ifs with state order babble
        · exact .inl ⟨_, rfl, settled.trans (respond_keeps _ _ _)⟩
        · exact .inl ⟨_, rfl, settled.trans (respond_keeps _ _ _)⟩
        · exact .inl ⟨_, rfl, settled.trans (respond_keeps _ _ _)⟩
        · simp only [State.linkOpen, Bool.and_eq_true, Bool.not_eq_true'] at linked
          exact .inr (.inr ⟨r, _, rfl, rfl, configSound_configOf _ (by simpa using order) (by simpa using babble),
            not_not.1 state, linked.1⟩)
      · exact .inl ⟨s.settle, by simp [exec, execConfigure, linked], settled⟩
    · exact .inl (exec_keeps i s (Bool.eq_false_iff.2 reset) fun r e => configure ⟨r, e⟩)

theorem enqueue_eq_setBuffer (n : Content) (s : State) : s.enqueue n = s.setBuffer (s.enqueue n).xmt.buffer := by
  obtain ⟨_, _, e⟩ | ⟨_, e⟩ := enqueue_cases s n <;> rw [e] <;> rfl

/-- What an accepted CONFIGURE leaves: everything but the controller, the idle count and the buffer. -/
theorem acceptConfig_eq (c : ConfigRecord) (s : State) : s.acceptConfig c = { s with
    ctl := { s.ctl with config := some c, digest := some (digestOf c), msCount := 0, epoch := 0, enrolCount := 0, monitorArmed := true,
                        station := .enrolling },
    rcv := { s.rcv with idleCount := 0, rxReady := false },
    xmt := { s.xmt with buffer := (s.acceptConfig c).xmt.buffer } } := enqueue_eq_setBuffer _ _

theorem acceptConfig_frame (c : ConfigRecord) (s : State) : KeepsFrame s (s.acceptConfig c) := by
  rw [acceptConfig_eq]; exact ⟨rfl, rfl⟩

theorem exec_laws (i : Instr) (s : State) : ∃ t, exec i s = .next t ∧ KeepsLaws s t ∧ KeepsFrame s t := by
  obtain ⟨t, ht, kept⟩ | ⟨_, latch, ht, _⟩ | ⟨r, c, _, ht, sound, unconfigured, released⟩ := exec_cases i s
  · exact ⟨t, ht, kept.laws, kept.frame⟩
  · exact ⟨_, ht, intoReset_keepsLaws latch s, rfl, rfl⟩
  · have settled : Keeps (allowed i s) s s.settle := settle_keeps s
    have answered : Keeps (allowed i (s.settle.acceptConfig c)) _ _ := respond_keeps 0x10 [statusOk] (s.settle.acceptConfig c)
    have accepted := acceptConfig_frame c s.settle
    exact ⟨_, ht, (settled.laws.trans (acceptConfig_keepsLaws unconfigured released sound)).trans answered.laws,
      answered.pending.trans (accepted.pending.trans settled.pending), answered.serial.trans (accepted.serial.trans settled.serial)⟩

/-- Settles O2: every command keeps the relation, resets the part, or is an accepted CONFIGURE. -/
theorem everyCommandCompletes : Obligations.EveryCommandCompletes := fun i s => by
  obtain ⟨t, ht, -, frame⟩ := exec_laws i s
  exact ⟨t, ht, frame.pending, frame.serial⟩

/-! ### Every step -/

/-- Settles O1: by the definition of a step. -/
theorem stepRunsTheFrontCommand : Obligations.StepRunsTheFrontCommand :=
  ⟨fun _ _ _ => rfl, fun s h => by rw [step, h]⟩

/-- The queue is no part of any law. -/
theorem step_keepsLaws (h : step s = .next t) : KeepsLaws s t := by
  unfold step at h
  split at h
  · cases h
    exact ⟨id, fun _ => id, fun _ => id, fun _ => id, id, fun _ => id⟩
  · rename_i i rest _
    obtain ⟨u, hu, kept, -⟩ := exec_laws i { s with pending := rest }
    obtain rfl : u = t := by simpa using hu.symm.trans h
    exact ⟨kept.controller, kept.tracker, kept.engine, kept.roster, kept.link, kept.buffer⟩

/-- Settles O56. -/
theorem stepKeepsTheController : Obligations.StepKeepsTheController := fun _ _ hC h => (step_keepsLaws h).controller hC

/-- Settles O57. -/
theorem stepKeepsTheTracker : Obligations.StepKeepsTheTracker := fun _ _ hC hT h => (step_keepsLaws h).tracker hC hT

/-- Settles O58. -/
theorem stepKeepsTheEvidence : Obligations.StepKeepsTheEvidence := fun _ _ hC hE h => (step_keepsLaws h).engine hC hE

/-- Settles O59. -/
theorem stepKeepsTheRosterAndTheQueue : Obligations.StepKeepsTheRosterAndTheQueue := fun _ _ hC hR hL h =>
  ⟨(step_keepsLaws h).roster hC hR, (step_keepsLaws h).link hL⟩

/-- Settles O60. -/
theorem stepKeepsTheBuffer : Obligations.StepKeepsTheBuffer := fun _ _ hC hB h => (step_keepsLaws h).buffer hC hB

end Sys2Proof.Machine
end

section
/-! What only a reset, the own release or a replacement ends: the latch, the lock with MUTE, and a condemnation. -/

namespace Sys2Proof.Machine

open Sys2Proof.Safety

variable {s t : State} {c : ConfigRecord}

/-- An operation to which nothing is left: it ends no condemnation and clears no latch. -/
def nothingLeft : Allowance := ⟨True, True, fun _ => False, False⟩

theorem acceptConfig_latch (c : ConfigRecord) (s : State) : (s.acceptConfig c).ctl.latch = s.ctl.latch := by rw [acceptConfig_eq]

theorem acceptConfig_record (c : ConfigRecord) (s : State) (x : Nat) : (s.acceptConfig c).record x = s.record x := by
  rw [acceptConfig_eq]; rfl

/-- Settles O52: a command keeps a set latch, or is the own release; a warm reset keeps it, and CONFIGURE does not touch it. -/
theorem latchIsClearedOnlyByPowerOnOrRelease : Obligations.LatchIsClearedOnlyByPowerOnOrRelease := by
  intro i s t step set clear
  obtain ⟨u, hu, kept⟩ | ⟨_, latch, hu, same⟩ | ⟨r, c, _, hu, _⟩ := exec_cases i s <;> cases hu.symm.trans step
  · obtain still | released := kept.latch set
    · rw [still] at clear; cases clear
    · exact .inr released
  · obtain rfl | power := same
    · exact absurd (set.symm.trans clear) nofun
    · exact .inl power
  · have settled : Keeps nothingLeft s s.settle := settle_keeps s
    have still : s.settle.ctl.latch = true := (settled.latch set).elim id False.elim
    exact absurd (still.symm.trans ((acceptConfig_latch c s.settle).symm.trans clear)) nofun

/-- Settles O54: a command keeps a condemnation, or is the release or the replacement; CONFIGURE does not touch the records. -/
theorem condemnationEndsOnlyByReleaseOrReplacement : Obligations.CondemnationEndsOnlyByReleaseOrReplacement := by
  intro i s t x _ low high step condemned ended
  have hx : isSlot x = true := by simp [isSlot, low, high]
  obtain ⟨u, hu, kept⟩ | ⟨reset, _⟩ | ⟨r, c, _, hu, _⟩ := exec_cases i s
  · cases hu.symm.trans step
    exact .inr ((kept.condemned x hx condemned).resolve_left ended)
  · exact .inl reset
  · cases hu.symm.trans step
    have settled : Keeps nothingLeft s s.settle := settle_keeps s
    have still : (s.settle.record x).standing = .condemned := (settled.condemned x hx condemned).elim id False.elim
    exact absurd ((congrArg BoardRecord.standing (acceptConfig_record c s.settle x)).trans still) ended

/-! ### What only a reset ends -/

/-- What only a reset ends, as it is kept by a change that no reset makes. -/
structure KeepsLock (mutes : Prop) (s t : State) : Prop where
  config : s.ctl.config.isSome = true → s.ctl.station ≠ .unconfigured → t.ctl.config = s.ctl.config ∧ t.ctl.digest = s.ctl.digest
  armed : s.ctl.monitorArmed = true → t.ctl.monitorArmed = true
  mute : ∀ r, s.ctl.station = .mute r → s.ctl.inReset = false → t.ctl.station = .mute r ∨ (mutes ∧ t.ctl.station = .mute .clockFault)
  source : s.ctl.tickSource = .rc → t.ctl.tickSource = .rc

theorem StationFrame.keepsLock {mutes : Prop} (h : StationFrame s t) : KeepsLock mutes s t where
  config _ _ := by rw [h.ctl]; exact ⟨rfl, rfl⟩
  armed a := by rw [h.ctl]; exact a
  mute r hr _ := by
    obtain e | ⟨live, -⟩ := h.station
    · exact .inl (e.trans hr)
    · rw [hr] at live; cases live
  source a := by rw [h.ctl]; exact a

theorem KeepsLock.of_ctl_eq {mutes : Prop} (h : t.ctl = s.ctl) : KeepsLock mutes s t := (StationFrame.of_ctl_eq h).keepsLock

/-- A clock fault moves the tick and mutes the station, or renames its reason. -/
theorem faultState_keepsLock (c : ConfigRecord) (s : State) :
    KeepsLock True s (({ s with ctl := { s.ctl with tickSource := .rc } } : State).faultState c) := by
  have muted (live : s.ctl.station.live = true) :
      KeepsLock True s (({ s with ctl := { s.ctl with tickSource := .rc } } : State).enterMute c .clockFault) := by
    have h := enterMute_stationFrame c .clockFault ({ s with ctl := { s.ctl with tickSource := .rc } } : State) live
    refine ⟨fun _ _ => by rw [h.ctl]; exact ⟨rfl, rfl⟩, fun a => by rw [h.ctl]; exact a, fun r hr => ?_, fun _ => by rw [h.ctl]⟩
    rw [hr] at live; cases live
  unfold State.faultState
  cases hs : s.ctl.station with
  | enrolling => simpa only [hs] using muted (by rw [hs]; rfl)
  | running => simpa only [hs] using muted (by rw [hs]; rfl)
  | quarantined => simpa only [hs] using muted (by rw [hs]; rfl)
  | mute r =>
    simp only
    refine ⟨fun _ _ => ?_, fun a => ?_, fun _ _ _ => .inr ⟨trivial, ?_⟩, fun _ => ?_⟩ <;> rw [State.post_ctl]
    · exact ⟨rfl, rfl⟩
    · exact a
  | unconfigured =>
    simp only [hs]
    exact ⟨fun _ h => absurd hs h, id, fun r hr => absurd (hs.symm.trans hr) nofun, fun _ => rfl⟩

theorem sampleStraps_keepsLock {mutes : Prop} (slotStrap : BitVec 5) (roleStrap : BitVec 2) (reset : s.ctl.inReset = true) :
    KeepsLock mutes s (s.sampleStraps slotStrap roleStrap) := by
  have ctl : ∃ st, (s.sampleStraps slotStrap roleStrap).ctl =
      { s.ctl with inReset := false, slotStrap := slotStrap, role := strapRole roleStrap, station := st } := by
    unfold State.sampleStraps; dsimp only
    split
    · exact ⟨_, rfl⟩
    · exact ⟨_, State.post_ctl ..⟩
  obtain ⟨st, ctl⟩ := ctl
  exact ⟨fun _ _ => by rw [ctl]; exact ⟨rfl, rfl⟩, fun a => by rw [ctl]; exact a,
    fun _ _ released => absurd (reset.symm.trans released) nofun, fun a => by rw [ctl]; exact a⟩

theorem KeepsLock.of_settled {mutes : Prop} (h : KeepsLock mutes s.settle t) : KeepsLock mutes s t := by
  have settled := settle_stationFrame s
  have lock : KeepsLock mutes s s.settle := settled.keepsLock
  refine ⟨fun stored configured => ?_, fun a => h.armed (lock.armed a), fun r hr released => ?_, fun a => h.source (lock.source a)⟩
  · obtain ⟨config, digest⟩ := lock.config stored configured
    obtain ⟨config', digest'⟩ := h.config (config ▸ stored) (settled.ne_unconfigured configured)
    exact ⟨config'.trans config, digest'.trans digest⟩
  · have same : s.settle.ctl.inReset = s.ctl.inReset := by rw [settled.ctl]
    have still : s.settle.ctl.station = .mute r := by
      obtain e | ⟨live, -⟩ := settled.station
      · exact e.trans hr
      · rw [hr] at live; cases live
    exact h.mute r still (same.trans released)

/-- A first CONFIGURE arms the monitor and leaves the tick where it was. -/
theorem acceptConfig_keepsLock {mutes : Prop} (unconfigured : s.ctl.station = .unconfigured) :
    KeepsLock mutes s ((s.acceptConfig c).respond 0x10 [statusOk]) := by
  have ctl : ((s.acceptConfig c).respond 0x10 [statusOk]).ctl = { s.ctl with
      config := some c, digest := some (digestOf c), msCount := 0, epoch := 0, enrolCount := 0, monitorArmed := true,
      station := .enrolling } := by rw [acceptConfig_eq]; rfl
  refine ⟨fun _ h => absurd unconfigured h, fun _ => ?_, fun r hr => absurd (unconfigured.symm.trans hr) nofun, fun a => ?_⟩ <;> rw [ctl]
  exact a

theorem exec_keepsLock (i : Instr) (s : State) (reset : isReset i = false) :
    ∃ t, exec i s = .next t ∧ KeepsLock (i = .clockFault) s t := by
  by_cases framed : changesController i = false
  · obtain ⟨t, ht, frame⟩ := exec_inFrame i s framed
    exact ⟨t, ht, frame.keepsLock⟩
  cases i with
  | leaveReset slotStrap roleStrap =>
    refine ⟨_, rfl, ?_⟩
    split
    · exact sampleStraps_keepsLock slotStrap roleStrap ‹_›
    · exact .of_ctl_eq rfl
  | clockFault =>
    refine ⟨_, rfl, KeepsLock.of_settled ?_⟩
    split
    · split
      · have fault := faultState_keepsLock ‹_› s.settle
        exact { fault with mute := fun r hr released => (fault.mute r hr released).imp_right fun h => ⟨rfl, h.2⟩ }
      · exact .of_ctl_eq rfl
    · exact .of_ctl_eq rfl
  | configure r =>
    refine ⟨_, rfl, KeepsLock.of_settled ?_⟩
    split_ifs
    · exact .of_ctl_eq rfl
    · exact .of_ctl_eq rfl
    · unfold State.takeConfigure
      split_ifs with state
      · exact .of_ctl_eq rfl
      · exact .of_ctl_eq rfl
      · exact .of_ctl_eq rfl
      · exact acceptConfig_keepsLock (not_not.1 state)
  | powerOnReset => cases reset
  | resetNLow => cases reset
  | restartWarmReset => cases reset
  | _ => exact absurd rfl framed

/-- Settles O53: only the clock fault renames MUTE's reason; the frame of every other command keeps the lock, the monitor and the tick. -/
theorem onlyResetsEndTheLockAndMute : Obligations.OnlyResetsEndTheLockAndMute := by
  intro i s t step reset
  obtain ⟨u, hu, lock⟩ := exec_keepsLock i s reset
  cases hu.symm.trans step
  refine ⟨fun c hc configured => ?_, lock.armed, lock.mute, lock.source⟩
  obtain ⟨config, digest⟩ := lock.config (by rw [hc]; rfl) configured
  exact ⟨config.trans hc, digest⟩

end Sys2Proof.Machine
end

section
/-! No operation looks at the run that is held (R50): a state that holds another run is changed alike, and holds that run still. So the
requests of a run may be carried out in parts. -/

namespace Sys2Proof.Machine

/-- The state with another run held. -/
def State.holding (run : List Request) (s : State) : State := { s with due := { s.due with run := run } }

section
variable (run : List Request) (s : State)

@[simp] theorem holding_ctl : (s.holding run).ctl = s.ctl := rfl
@[simp] theorem holding_trk : (s.holding run).trk = s.trk := rfl
@[simp] theorem holding_eng : (s.holding run).eng = s.eng := rfl
@[simp] theorem holding_rcv : (s.holding run).rcv = s.rcv := rfl
@[simp] theorem holding_xmt : (s.holding run).xmt = s.xmt := rfl
@[simp] theorem holding_lnk : (s.holding run).lnk = s.lnk := rfl
@[simp] theorem holding_choices : (s.holding run).choices = s.choices := rfl
@[simp] theorem holding_due_run : (s.holding run).due.run = run := rfl
@[simp] theorem holding_evidence : (s.holding run).due.evidence = s.due.evidence := rfl
@[simp] theorem holding_receiver : (s.holding run).due.receiver = s.due.receiver := rfl
@[simp] theorem holding_record (x : Nat) : (s.holding run).record x = s.record x := rfl
@[simp] theorem holding_entry (x : Nat) : (s.holding run).entry x = s.entry x := rfl
@[simp] theorem holding_ownSlot : (s.holding run).ownSlot = s.ownSlot := rfl
@[simp] theorem holding_evidenceEpoch : (s.holding run).evidenceEpoch = s.evidenceEpoch := rfl
@[simp] theorem holding_quorumKeys (c : ConfigRecord) : (s.holding run).quorumKeys c = s.quorumKeys c := rfl

@[simp] theorem holding_holding (other : List Request) : (s.holding other).holding run = s.holding run := rfl
@[simp] theorem holding_self : s.holding s.due.run = s := rfl

@[simp] theorem ite_holding {q : Prop} [Decidable q] (t : State) :
    (if q then s.holding run else t.holding run) = (if q then s else t).holding run := (apply_ite (State.holding run) q s t).symm

/-! ### The operations of the Evidence Engine -/

@[simp] theorem setRecord_holding (x : Nat) (r : BoardRecord) : (s.holding run).setRecord x r = (s.setRecord x r).holding run := rfl
@[simp] theorem mapRecords_holding (f : BoardRecord → BoardRecord) : (s.holding run).mapRecords f = (s.mapRecords f).holding run := rfl
@[simp] theorem setAccusations_holding (l : List Accusation) : (s.holding run).setAccusations l = (s.setAccusations l).holding run := rfl
@[simp] theorem setBuffer_holding (l : List TxNote) : (s.holding run).setBuffer l = (s.setBuffer l).holding run := rfl
@[simp] theorem setEntry_holding (x : Nat) (e : RosterEntry) : (s.holding run).setEntry x e = (s.setEntry x e).holding run := rfl
@[simp] theorem mapRoster_holding (f : RosterEntry → RosterEntry) : (s.holding run).mapRoster f = (s.mapRoster f).holding run := rfl
@[simp] theorem latchFlag_holding (f : BitVec 7) : (s.holding run).latchFlag f = (s.latchFlag f).holding run := rfl

@[simp] theorem post_holding (b : NoticeBody) : (s.holding run).post b = (s.post b).holding run := by
  unfold State.post
  rw [holding_lnk]
  dsimp only
  split <;> rfl

@[simp] theorem enqueue_holding (n : Content) : (s.holding run).enqueue n = (s.enqueue n).holding run := by
  unfold State.enqueue; rw [holding_xmt]; split <;> rfl

@[simp] theorem announce_holding (a : Nat) (k : AccKind) (t : Half) : (s.holding run).announce a k t = (s.announce a k t).holding run := by
  unfold State.announce
  by_cases running : s.ctl.station = .running
  · rw [if_pos (show (s.holding run).ctl.station = .running from running), if_pos running, holding_xmt]
    cases s.xmt.buffer.findIdx? (mergeTarget a k) with
    | some i =>
      dsimp only
      rw [apply_ite (State.holding run)]
      rfl
    | none =>
      cases placeFor s.xmt.buffer .accuse with
      | some q => exact enqueue_holding ..
      | none => rfl
  · rw [if_neg (show (s.holding run).ctl.station ≠ .running from running), if_neg running]

@[simp] theorem changeStanding_holding (x : Nat) (n : Standing) (k : Cause) :
    (s.holding run).changeStanding x n k = (s.changeStanding x n k).holding run := by simp [State.changeStanding]

@[simp] theorem enterQuarantined_holding (c : ConfigRecord) (k : Trigger) (z : Nat) :
    (s.holding run).enterQuarantined c k z = (s.enterQuarantined c k z).holding run := by
  have entered := post_holding run { s with ctl := { s.ctl with
    station := .quarantined, latch := s.ctl.latch || decide (c.fence = FenceMode.enforce) } }
  exact congrArg (fun t : State => t.setBuffer (t.xmt.buffer.filterMap quarantineNote)) (entered _)

@[simp] theorem triggerInMute_holding (c : ConfigRecord) (k : Trigger) (z : Nat) :
    (s.holding run).triggerInMute c k z = (s.triggerInMute c k z).holding run := by
  have set := post_holding run { s with ctl := { s.ctl with latch := true } } (.quarantine .latchSet k true z)
  unfold State.triggerInMute
  rw [holding_ctl]
  split
  · exact set
  · rfl

@[simp] theorem takeTrigger_holding (c : ConfigRecord) (k : Trigger) (z : Nat) :
    (s.holding run).takeTrigger c k z = (s.takeTrigger c k z).holding run := by
  unfold State.takeTrigger
  rw [holding_ctl]
  split
  · exact enterQuarantined_holding ..
  · rfl
  · exact triggerInMute_holding ..
  · rfl
  · rfl

@[simp] theorem evaluate_holding (c : ConfigRecord) (x : Nat) : (s.holding run).evaluate c x = (s.evaluate c x).holding run := by
  simp [State.evaluate]

@[simp] theorem applyItem_holding (c : ConfigRecord) (w a : Nat) (k : EvidenceKind) (n : Nat) :
    (s.holding run).applyItem c w a k n = (s.applyItem c w a k n).holding run := by simp [State.applyItem]

@[simp] theorem applyAndEvaluate_holding (c : ConfigRecord) (w a : Nat) (k : EvidenceKind) (n : Nat) :
    (s.holding run).applyAndEvaluate c w a k n = (s.applyAndEvaluate c w a k n).holding run := by simp [State.applyAndEvaluate]

@[simp] theorem promote_holding (c : ConfigRecord) : (s.holding run).promote c = (s.promote c).holding run := by
  unfold State.promote
  rw [holding_eng]
  split <;> simp

@[simp] theorem appendEntry_holding (c : ConfigRecord) (x a : Nat) (k : AccKind) (load : Load) :
    (s.holding run).appendEntry c x a k load = (s.appendEntry c x a k load).holding run := by simp [State.appendEntry]

@[simp] theorem addTagged_holding (c : ConfigRecord) (x a : Nat) (k : AccKind) (t : Half) :
    (s.holding run).addTagged c x a k t = (s.addTagged c x a k t).holding run := by simp [State.addTagged]

@[simp] theorem addSurplus_holding (c : ConfigRecord) (x a : Nat) (k : AccKind) (n : Nat) :
    (s.holding run).addSurplus c x a k n = (s.addSurplus c x a k n).holding run := by simp [State.addSurplus]

@[simp] theorem takeRebut_holding (c : ConfigRecord) (x a : Nat) (t : Half) (k : AccKind) :
    (s.holding run).takeRebut c x a t k = (s.takeRebut c x a t k).holding run := by simp [State.takeRebut]

@[simp] theorem observe_holding (c : ConfigRecord) (a : Nat) (k : AccKind) (t : Half) :
    (s.holding run).observe c a k t = (s.observe c a k t).holding run := by
  let counted : State := { s with choices := s.choices + 1 }
  have first : ((counted.holding run).announce a k t).addTagged c s.ownSlot a k t =
      ((counted.announce a k t).addTagged c s.ownSlot a k t).holding run := by simp
  have second : ((counted.holding run).addTagged c s.ownSlot a k t).announce a k t =
      ((counted.addTagged c s.ownSlot a k t).announce a k t).holding run := by simp
  unfold State.observe
  rw [holding_ctl, holding_choices]
  split
  · dsimp only
    split
    · exact first
    · exact second
  · exact addTagged_holding ..
  · rfl
  · rfl
  · rfl

@[simp] theorem peerQuorum_holding (c : ConfigRecord) : (s.holding run).peerQuorum c = (s.peerQuorum c).holding run := by
  simp [State.peerQuorum]

/-! ### Requests of a run -/

@[simp] theorem offerRebut_holding (c : ConfigRecord) (a : Nat) (k : AccKind) (t : Half) :
    (s.holding run).offerRebut c a k t = (s.offerRebut c a k t).holding run := by
  unfold State.offerRebut
  simp only [holding_ctl, holding_xmt, holding_ownSlot, enqueue_holding, takeRebut_holding, latchFlag_holding]
  split
  · split <;> rfl
  · rfl

@[simp] theorem lookupAndRebut_holding (c : ConfigRecord) (a : Nat) (k : AccKind) (t : Half) :
    (s.holding run).lookupAndRebut c a k t = (s.lookupAndRebut c a k t).holding run := by simp [State.lookupAndRebut]

@[simp] theorem countAccepted_holding (c : ConfigRecord) (x : Nat) :
    (s.holding run).countAccepted c x = (s.countAccepted c x).holding run := by simp [State.countAccepted]

@[simp] theorem carryOut_holding (c : ConfigRecord) (r : Request) : (s.holding run).carryOut c r = (s.carryOut c r).holding run := by
  cases r <;> simp [State.carryOut]

/-! ### Works -/

@[simp] theorem removeExchange_holding (c : ConfigRecord) (p : OetEntry → Bool) :
    (s.holding run).removeExchange c p = (s.removeExchange c p).holding run := rfl

@[simp] theorem expireOldest_holding (c : ConfigRecord) : (s.holding run).expireOldest c = (s.expireOldest c).holding run := by
  unfold State.expireOldest
  rw [holding_trk]
  split <;> simp

@[simp] theorem setEvidenceDue_holding (n : Nat) : (s.holding run).setEvidenceDue n = (s.setEvidenceDue n).holding run := rfl
@[simp] theorem setReceiverDue_holding (n : Nat) : (s.holding run).setReceiverDue n = (s.setReceiverDue n).holding run := rfl

end

/-- A fold of operations that do not look at the held run does not either. -/
theorem foldl_holding {α : Type} (run : List Request) (f : State → α → State) (h : ∀ s a, f (s.holding run) a = (f s a).holding run) :
    ∀ (l : List α) (s : State), l.foldl f (s.holding run) = (l.foldl f s).holding run
  | [], _ => rfl
  | a :: rest, s => by rw [List.foldl_cons, h, foldl_holding run f h rest, List.foldl_cons]

/-- A step that is taken or passed over does not look at the held run where the step does not. -/
theorem step_holding (run : List Request) {q : Prop} [Decidable q] {f : State → State}
    (h : ∀ t : State, f (t.holding run) = (f t).holding run) {t u : State} (e : u = t.holding run) :
    (if q then f u else u) = (if q then f t else t).holding run := by
  rw [e]
  split
  · exact h t
  · rfl

variable (run : List Request) (s : State)

@[simp] theorem carryOutAll_holding (c : ConfigRecord) (l : List Request) :
    (s.holding run).carryOutAll c l = (s.carryOutAll c l).holding run := foldl_holding run _ (fun s r => carryOut_holding run s c r) l s

@[simp] theorem expireTimes_holding (c : ConfigRecord) (n : Nat) : (s.holding run).expireTimes c n = (s.expireTimes c n).holding run := by
  induction n generalizing s with
  | zero => rfl
  | succ n ih => rw [State.expireTimes, expireOldest_holding, ih]; rfl

@[simp] theorem expireAll_holding (c : ConfigRecord) : (s.holding run).expireAll c = (s.expireAll c).holding run :=
  expireTimes_holding run s c _

@[simp] theorem decayScores_holding (c : ConfigRecord) : (s.holding run).decayScores c = (s.decayScores c).holding run := rfl
@[simp] theorem expireWitnesses_holding (c : ConfigRecord) : (s.holding run).expireWitnesses c = (s.expireWitnesses c).holding run := rfl
@[simp] theorem lowerProbations_holding : (s.holding run).lowerProbations = s.lowerProbations.holding run := rfl

@[simp] theorem applyDue_holding (c : ConfigRecord) : (s.holding run).applyDue c = (s.applyDue c).holding run := by
  unfold State.applyDue
  rw [foldl_holding run _ fun s e => applyItem_holding run s c _ _ _ _]
  rfl

@[simp] theorem evaluateAll_holding (c : ConfigRecord) : (s.holding run).evaluateAll c = (s.evaluateAll c).holding run :=
  foldl_holding run _ (fun s x => evaluate_holding run s c x) slots s

@[simp] theorem evidenceUpTo_holding (c : ConfigRecord) (k : Nat) : (s.holding run).evidenceUpTo c k = (s.evidenceUpTo c k).holding run := by
  exact step_holding run (lowerProbations_holding run) (step_holding run (fun t => evaluateAll_holding run t c) (step_holding run
    (fun t => applyDue_holding run t c) (step_holding run (fun t => expireWitnesses_holding run t c) (step_holding run
      (fun t => decayScores_holding run t c) (setEvidenceDue_holding run s _)))))

@[simp] theorem clearCounts_holding : (s.holding run).clearCounts = s.clearCounts.holding run := rfl
@[simp] theorem lowerMutes_holding : (s.holding run).lowerMutes = s.lowerMutes.holding run := rfl

@[simp] theorem advanceLapse_holding (c : ConfigRecord) (x : Nat) : (s.holding run).advanceLapse c x = (s.advanceLapse c x).holding run := by
  simp [State.advanceLapse]

@[simp] theorem advanceLapses_holding (c : ConfigRecord) : (s.holding run).advanceLapses c = (s.advanceLapses c).holding run :=
  foldl_holding run _ (fun s x => advanceLapse_holding run s c x) slots s

@[simp] theorem receiverUpTo_holding (c : ConfigRecord) (k : Nat) : (s.holding run).receiverUpTo c k = (s.receiverUpTo c k).holding run := by
  exact congrArg (State.setReceiverDue (if 5 ≤ k then 0 else k)) (step_holding run (fun t => peerQuorum_holding run t c) (step_holding run
    (fun t => advanceLapses_holding run t c) (step_holding run (lowerMutes_holding run) (step_holding run (clearCounts_holding run)
      rfl))))

@[simp] theorem finishExpiries_holding : (s.holding run).finishExpiries = s.finishExpiries.holding run := by
  unfold State.finishExpiries
  rw [holding_ctl]
  split <;> simp

@[simp] theorem finishEvidence_holding : (s.holding run).finishEvidence = s.finishEvidence.holding run := by
  unfold State.finishEvidence
  rw [holding_ctl]
  split <;> simp

@[simp] theorem finishReceiver_holding : (s.holding run).finishReceiver = s.finishReceiver.holding run := by
  unfold State.finishReceiver
  rw [holding_ctl]
  split <;> simp

@[simp] theorem finishWorks_holding : (s.holding run).finishWorks = s.finishWorks.holding run := by simp [State.finishWorks]

end Sys2Proof.Machine
end

section
/-! The order in which what has been begun is finished (R26, R51; Logs 4, 5, 25, 27): runs by their requests, expiries one by one, boundary
work by its command, and the work of a moment before the next tick as its own commands. -/

namespace Sys2Proof.Machine

open Sys2Proof.Safety

variable {s t : State} {c : ConfigRecord}

/-! ### Settling settles -/

theorem settle_settle (s : State) : s.settle.settle = s.settle := by
  cases hc : s.ctl.config with
  | some c => exact settle_of_quiet _ (quiet_settle hc)
  | none => rw [settle_of_config_none hc, settle_of_config_none hc]

theorem settle_config (s : State) : s.settle.ctl.config = s.ctl.config := (settle_stationFrame s).config

theorem catchUp_settle (c : ConfigRecord) (s : State) : s.settle.catchUp c = s.catchUp c := by
  unfold State.catchUp; rw [settle_settle]

/-- A command that is taken only once nothing is partway acts on the settled state. -/
theorem exec_settle (i : Instr) (s : State) (h : settlesFirst i = true) : exec i s.settle = exec i s := by
  cases i with
  | powerOnReset | resetNLow | leaveReset | restartWarmReset | oetEntryExpiry | evidenceBoundaryWork | witnessExpiry | pendingEntryDue
  | probationEnd | noteReceiverBoundaryWork | muteEnd | lapse | readStatus | readView => cases h
  | msTick =>
    simp only [exec, execMsTick, settle_config]
    split
    · rw [catchUp_settle]
    · rw [settle_of_config_none ‹_›]
  | tapRecord => simp only [exec, execTapRecord, settle_settle]
  | tapRecordIncomplete => simp only [exec, execTapRecordIncomplete, settle_settle]
  | takeTapRecord => simp only [exec, execTakeTapRecord, settle_settle]
  | classTick => simp only [exec, execClassTick, settle_settle]
  | epochBoundary => simp only [exec, execEpochBoundary, settle_settle]
  | blindPeriodEnd => simp only [exec, execBlindPeriodEnd, settle_settle]
  | noteTransmitterBoundaryWork => simp only [exec, execNoteTransmitterBoundaryWork, settle_settle]
  | enrolmentStep => simp only [exec, execEnrolmentStep, settle_settle]
  | endOfEnrolment => simp only [exec, execEndOfEnrolment, settle_settle]
  | clockFault => simp only [exec, execClockFault, settle_settle]
  | busIdle => simp only [exec, execBusIdle, settle_settle]
  | beginAttempt => simp only [exec, execBeginAttempt, settle_settle]
  | arbitrationLost => simp only [exec, execArbitrationLost, settle_settle]
  | readBackFailure => simp only [exec, execReadBackFailure, settle_settle]
  | attemptComplete => simp only [exec, execAttemptComplete, settle_settle]
  | receiveGarbledNote => simp only [exec, execReceiveGarbledNote, settle_settle]
  | receiveEnrol => simp only [exec, execReceiveEnrol, settle_settle]
  | receiveBeacon => simp only [exec, execReceiveBeacon, settle_settle]
  | receiveAccuse => simp only [exec, execReceiveAccuse, settle_settle]
  | receiveRebut => simp only [exec, execReceiveRebut, settle_settle]
  | configure => simp only [exec, execConfigure, settle_settle]
  | flagsByteClocked => simp only [exec, execFlagsByteClocked, settle_settle]
  | takeNotice => simp only [exec, execTakeNotice, settle_settle]
  | noticeRemoved => simp only [exec, execNoticeRemoved, settle_settle]
  | release => simp only [exec, execRelease, settle_settle]
  | restart => simp only [exec, execRestart, settle_settle]
  | unknownCommand => simp only [exec, execUnknownCommand, settle_settle]
  | commandAborted => simp only [exec, execCommandAborted, settle_settle]

/-! ### A block's own work -/

theorem finishRun_of_config_none (hc : s.ctl.config = none) : s.finishRun = s := by unfold State.finishRun; rw [hc]
theorem finishExpiries_of_config_none (hc : s.ctl.config = none) : s.finishExpiries = s := by unfold State.finishExpiries; rw [hc]
theorem finishEvidence_of_config_none (hc : s.ctl.config = none) : s.finishEvidence = s := by unfold State.finishEvidence; rw [hc]
theorem finishReceiver_of_config_none (hc : s.ctl.config = none) : s.finishReceiver = s := by unfold State.finishReceiver; rw [hc]

/-- What is finished before work of the Evidence Engine that has not been begun: everything. -/
theorem finishBeforeEvidence_eq_settle (h : s.due.evidence ≤ 1) : s.finishRun.finishExpiries.finishReceiver = s.settle := by
  cases hc : s.ctl.config with
  | some c =>
    have idle : s.finishRun.finishExpiries.due.evidence ≤ 1 := by rw [finishExpiries_due, finishRun_due hc]; exact h
    rw [State.settle, State.finishWorks, finishEvidence_of_quiet _ idle]
  | none =>
    rw [settle_of_config_none hc, finishRun_of_config_none hc, finishExpiries_of_config_none hc, finishReceiver_of_config_none hc]

/-- What is finished before work of the Note Receiver that has not been begun: everything. -/
theorem finishBeforeReceiver_eq_settle (h : s.due.receiver ≤ 1) : s.finishRun.finishExpiries.finishEvidence = s.settle := by
  cases hc : s.ctl.config with
  | some c =>
    have hc1 := ((finishRun_stationFrame s).trans (finishExpiries_stationFrame _)).config.trans hc
    have idle : s.finishRun.finishExpiries.finishEvidence.due.receiver ≤ 1 := by
      rw [finishEvidence_due hc1, finishExpiries_due, finishRun_due hc]; exact h
    rw [State.settle, State.finishWorks, finishReceiver_of_quiet _ idle]
  | none =>
    rw [settle_of_config_none hc, finishRun_of_config_none hc, finishExpiries_of_config_none hc, finishEvidence_of_config_none hc]

theorem settle_evidence_le (h : s.due.evidence ≤ 1) : s.settle.due.evidence ≤ 1 := by
  cases hc : s.ctl.config with
  | some c => exact (quiet_settle hc).1.2.1
  | none => rwa [settle_of_config_none hc]

theorem settle_receiver_le (h : s.due.receiver ≤ 1) : s.settle.due.receiver ≤ 1 := by
  cases hc : s.ctl.config with
  | some c => exact (quiet_settle hc).1.2.2
  | none => rwa [settle_of_config_none hc]

theorem exec_evidencePart_settle (i : Instr) (s : State) (h : evidencePart i = true) (idle : s.due.evidence ≤ 1) :
    exec i s.settle = exec i s := by
  have before := finishBeforeEvidence_eq_settle idle
  have settled := (finishBeforeEvidence_eq_settle (settle_evidence_le idle)).trans (settle_settle s)
  cases i with
  | evidenceBoundaryWork => simp only [exec, execEvidenceBoundaryWork, before, settled]
  | witnessExpiry => simp only [exec, execWitnessExpiry, before, settled]
  | pendingEntryDue => simp only [exec, execPendingEntryDue, before, settled]
  | probationEnd => simp only [exec, execProbationEnd, before, settled]
  | _ => cases h

theorem exec_receiverPart_settle (i : Instr) (s : State) (h : receiverPart i = true) (idle : s.due.receiver ≤ 1) :
    exec i s.settle = exec i s := by
  have before := finishBeforeReceiver_eq_settle idle
  have settled := (finishBeforeReceiver_eq_settle (settle_receiver_le idle)).trans (settle_settle s)
  cases i with
  | noteReceiverBoundaryWork => simp only [exec, execNoteReceiverBoundaryWork, before, settled]
  | muteEnd => simp only [exec, execMuteEnd, before, settled]
  | lapse => simp only [exec, execLapse, before, settled]
  | _ => cases h

/-! ### Runs -/

/-- Commands that begin by finishing a run. -/
theorem exec_of_finishRun_eq {i : Instr} (begins : settlesFirst i = true ∨ evidencePart i = true ∨ receiverPart i = true ∨ i = .oetEntryExpiry)
    (config : s.ctl.config = t.ctl.config) (h : s.finishRun = t.finishRun) : exec i s = exec i t := by
  have settled : s.settle = t.settle := by rw [State.settle, State.settle, h]
  obtain begins | begins | begins | rfl := begins
  · rw [← exec_settle i s begins, ← exec_settle i t begins, settled]
  · cases i with
    | evidenceBoundaryWork => simp only [exec, execEvidenceBoundaryWork, h]
    | witnessExpiry => simp only [exec, execWitnessExpiry, h]
    | pendingEntryDue => simp only [exec, execPendingEntryDue, h]
    | probationEnd => simp only [exec, execProbationEnd, h]
    | _ => cases begins
  · cases i with
    | noteReceiverBoundaryWork => simp only [exec, execNoteReceiverBoundaryWork, h]
    | muteEnd => simp only [exec, execMuteEnd, h]
    | lapse => simp only [exec, execLapse, h]
    | _ => cases begins
  · simp only [exec, execOetEntryExpiry, config, h]
    split
    · rfl
    · rename_i none
      rw [← finishRun_of_config_none none, ← h, finishRun_of_config_none (config.trans none)]

theorem finishRun_eq (hc : s.ctl.config = some c) : s.finishRun = (s.carryOutAll c s.due.run).holding [] := by
  unfold State.finishRun; rw [hc]; rfl

/-- The first request of a held run may be carried out by itself. -/
theorem finishRun_carryOut (hc : s.ctl.config = some c) {r : Request} {rest : List Request} (run : s.due.run = r :: rest) :
    ((s.holding rest).carryOut c r).finishRun = s.finishRun := by
  have hc' : ((s.holding rest).carryOut c r).ctl.config = some c := (carryOut_stationFrame c r _).config.trans hc
  have still : ((s.holding rest).carryOut c r).due.run = rest := by rw [carryOut_due]; rfl
  rw [finishRun_eq hc', finishRun_eq hc, still, run, carryOut_holding, carryOutAll_holding, holding_holding]
  rfl

/-- A slot for a REBUT is free in its own pool or in the shared one. -/
theorem placeFor_rebut_isSome (b : List TxNote) :
    (placeFor b .rebut).isSome = true ↔ poolUse b .rebut < poolSize .rebut ∨ poolUse b .shared < poolSize .shared := by
  simp only [placeFor, poolFree, decide_eq_true_eq]
  split
  · simp [*]
  · split <;> simp [*]

theorem offerRebut_of_running (running : s.ctl.station = .running) (a : Nat) (k : AccKind) (t : Half) :
    s.offerRebut c a k t = if poolUse s.xmt.buffer .rebut < poolSize .rebut ∨ poolUse s.xmt.buffer .shared < poolSize .shared
      then (s.enqueue (.rebut a t k)).takeRebut c s.ownSlot a t k else s.latchFlag noteDropped := by
  simp only [← placeFor_rebut_isSome, State.offerRebut, running, if_true]
  cases placeFor s.xmt.buffer .rebut <;> rfl

/-! ### Expiries -/

/-- The first of the outstanding expiries may be carried out by itself. -/
theorem expireAll_expireOldest (c : ConfigRecord) (outstanding : ∃ e ∈ s.trk.oet, 4 ≤ e.age) :
    (s.expireOldest c).expireAll c = s.expireAll c := by
  obtain ⟨e, he, age⟩ := outstanding
  have count : s.trk.oet.countP expiring = (s.expireOldest c).trk.oet.countP expiring + 1 := by
    obtain ⟨a, before, after, -, ha, split, erased⟩ := List.exists_of_eraseP (p := expiring) he (by simpa [expiring] using age)
    rw [expireOldest_oet, erased, split, List.countP_append, List.countP_append, List.countP_cons_of_pos ha]
    omega
  simp only [State.expireAll, count]
  rfl

theorem settle_of_run_nil (run : s.due.run = []) : s.settle = s.finishWorks := by rw [State.settle, finishRun_of_none s run]

theorem settle_expireOldest (hc : s.ctl.config = some c) (run : s.due.run = []) (outstanding : ∃ e ∈ s.trk.oet, 4 ≤ e.age) :
    (s.expireOldest c).settle = s.settle := by
  have hc' : (s.expireOldest c).ctl.config = some c := (expireOldest_stationFrame c s).config.trans hc
  have expiries : (s.expireOldest c).finishExpiries = s.finishExpiries := by
    simp only [State.finishExpiries, hc, hc']
    exact expireAll_expireOldest c outstanding
  rw [settle_of_run_nil run, settle_of_run_nil (by rw [expireOldest_due]; exact run), State.finishWorks, State.finishWorks, expiries]

/-! ### Boundary work that stands partway -/

theorem finishEvidence_of_begun (hc : s.ctl.config = some c) (begun : 2 ≤ s.due.evidence) : s.finishEvidence = s.evidenceWork c := by
  unfold State.finishEvidence State.evidenceWork
  rw [hc]; dsimp only
  rw [if_pos begun, if_pos (by omega)]

theorem finishReceiver_of_begun (hc : s.ctl.config = some c) (begun : 2 ≤ s.due.receiver) : s.finishReceiver = s.receiverWork c := by
  unfold State.finishReceiver State.receiverWork
  rw [hc]; dsimp only
  rw [if_pos begun, if_pos (by omega)]

theorem evidenceWork_due (c : ConfigRecord) (s : State) : (s.evidenceWork c).due = { s.due with evidence := 0 } := by
  unfold State.evidenceWork
  split
  · exact evidenceUpTo_due c 6 s
  · rw [show s.due = { s.due with evidence := s.due.evidence } from rfl, show s.due.evidence = 0 by omega]

theorem evidenceWork_trk (c : ConfigRecord) (s : State) : (s.evidenceWork c).trk = s.trk := by
  unfold State.evidenceWork
  split
  · exact evidenceUpTo_trk c 6 s
  · rfl

theorem receiverWork_due (c : ConfigRecord) (s : State) : (s.receiverWork c).due = { s.due with receiver := 0 } := by
  unfold State.receiverWork
  split
  · exact (receiverUpTo_trk_due c 5 s).2
  · rw [show s.due = { s.due with receiver := s.due.receiver } from rfl, show s.due.receiver = 0 by omega]

theorem receiverWork_trk (c : ConfigRecord) (s : State) : (s.receiverWork c).trk = s.trk := by
  unfold State.receiverWork
  split
  · exact (receiverUpTo_trk_due c 5 s).1
  · rfl

theorem exec_evidenceBoundaryWork_of_begun (hc : s.ctl.config = some c) (run : s.due.run = []) (ages : ∀ e ∈ s.trk.oet, e.age < 4)
    (begun : 2 ≤ s.due.evidence) (idle : s.due.receiver ≤ 1) : exec .evidenceBoundaryWork s = .next s.settle := by
  have rest : (s.evidenceWork c).finishReceiver = s.evidenceWork c :=
    finishReceiver_of_quiet _ (by rw [evidenceWork_due]; exact idle)
  rw [settle_of_run_nil run, State.finishWorks, finishExpiries_of_quiet s ages, finishEvidence_of_begun hc begun, rest]
  simp only [exec, execEvidenceBoundaryWork, finishRun_of_none s run, finishExpiries_of_quiet s ages, finishReceiver_of_quiet s idle, hc]

theorem exec_noteReceiverBoundaryWork_of_begun (hc : s.ctl.config = some c) (run : s.due.run = []) (ages : ∀ e ∈ s.trk.oet, e.age < 4)
    (begun : 2 ≤ s.due.receiver) : exec .noteReceiverBoundaryWork s = .next s.settle := by
  have hc' : s.finishEvidence.ctl.config = some c := (finishEvidence_stationFrame s).config.trans hc
  have begun' : 2 ≤ s.finishEvidence.due.receiver := by rw [finishEvidence_due hc]; exact begun
  rw [settle_of_run_nil run, State.finishWorks, finishExpiries_of_quiet s ages, finishReceiver_of_begun hc' begun']
  simp only [exec, execNoteReceiverBoundaryWork, finishRun_of_none s run, finishExpiries_of_quiet s ages, hc']

/-! ### Readings -/

theorem finishWorks_finishWorks (s : State) : s.finishWorks.finishWorks = s.finishWorks := by
  cases hc : s.ctl.config with
  | some c => exact finishWorks_of_readable _ (readable_finishWorks hc)
  | none =>
    have same : s.finishWorks = s := by
      rw [State.finishWorks, finishExpiries_of_config_none hc, finishEvidence_of_config_none hc, finishReceiver_of_config_none hc]
    rw [same, same]

/-- The works are finished alike whatever run is held. -/
theorem finishWorks_eq_settle_holding (s : State) : s.finishWorks = (s.holding []).settle.holding s.due.run := by
  rw [settle_of_run_nil (by rfl), finishWorks_holding, holding_holding]
  cases hc : s.ctl.config with
  | some c =>
    have still : s.finishWorks.due.run = s.due.run := by rw [finishWorks_due hc]
    rw [← still, holding_self]
  | none =>
    have same : s.finishWorks = s := by
      rw [State.finishWorks, finishExpiries_of_config_none hc, finishEvidence_of_config_none hc, finishReceiver_of_config_none hc]
    rw [same, holding_self]

/-- A view outside the steps within which it may fall finishes every work. -/
theorem finishForView_eq_finishWorks (h : s.due.evidence < 2 ∨ 4 < s.due.evidence) : s.finishForView = s.finishWorks := by
  have evidence : s.finishExpiries.finishEvidenceForView = s.finishExpiries.finishEvidence := by
    unfold State.finishEvidenceForView State.finishEvidence
    rw [finishExpiries_due]
    split
    · rw [if_neg (by omega)]
      obtain h | h := h
      · rw [if_neg (by omega), if_neg (by omega)]
      · rw [if_pos (by omega), if_pos (by omega)]
    · rfl
  rw [State.finishForView, State.finishWorks, evidence]

theorem exec_readView_finishWorks (slot : Byte) (h : s.due.evidence < 2 ∨ 4 < s.due.evidence) :
    exec (.readView slot) s = exec (.readView slot) s.finishWorks := by
  have again : s.finishWorks.finishForView = s.finishWorks := by
    refine (finishForView_eq_finishWorks ?_).trans (finishWorks_finishWorks s)
    cases hc : s.ctl.config with
    | some c => exact .inl (by have := (readable_finishWorks hc).2.1; omega)
    | none => rwa [State.finishWorks, finishExpiries_of_config_none hc, finishEvidence_of_config_none hc, finishReceiver_of_config_none hc]
  simp only [exec, execReadView, finishForView_eq_finishWorks h, again]

end Sys2Proof.Machine
end

section
/-! The work of a moment before the next tick (Log 4): its own commands one after another, after which nothing is due. -/

namespace Sys2Proof.Machine

open Sys2Proof.Safety

variable {s t u : State} {c : ConfigRecord}

/-! ### What the work of a moment leaves due -/

theorem enqueue_due (n : Content) (s : State) : (s.enqueue n).due = s.due := (enqueue_frame s n).due
theorem enqueue_trk (n : Content) (s : State) : (s.enqueue n).trk = s.trk := (enqueue_frame s n).trk

theorem transmitterWork_due (c : ConfigRecord) (s : State) : (s.transmitterWork c).due = { s.due with transmitter := false } := by
  unfold State.transmitterWork
  split
  · dsimp only
    split
    · exact enqueue_due _ _
    · rfl
  · rename_i h
    rw [← Bool.eq_false_iff.2 h]

theorem transmitterWork_trk (c : ConfigRecord) (s : State) : (s.transmitterWork c).trk = s.trk := by
  unfold State.transmitterWork
  split
  · dsimp only
    split
    · exact enqueue_trk _ _
    · rfl
  · rfl

theorem blindWork_due (s : State) : s.blindWork.due = { s.due with blind := false } := by
  unfold State.blindWork
  split
  · rfl
  · rename_i h
    rw [← Bool.eq_false_iff.2 h]

theorem blindWork_oet (s : State) : s.blindWork.trk.oet = s.trk.oet := by
  unfold State.blindWork; split <;> rfl

theorem triggerInMute_due_trk (c : ConfigRecord) (k : Trigger) (z : Nat) (s : State) :
    (s.triggerInMute c k z).due = s.due ∧ (s.triggerInMute c k z).trk = s.trk := by
  unfold State.triggerInMute; split <;> simp

/-- Entry to MUTE leaves what is due, and the tracker as reset leaves it. -/
theorem enterMute_due_trk (c : ConfigRecord) (d : MuteDetail) (s : State) :
    (s.enterMute c d).due = s.due ∧ (s.enterMute c d).trk = Tracker.reset := by
  have muted : (s.muted d).due = s.due ∧ (s.muted d).trk = Tracker.reset := by simp [State.muted]
  obtain e | ⟨h, _, _, _, e⟩ := enterMute_cases c d s <;> rw [e]
  · exact muted
  · have trigger := triggerInMute_due_trk c h.kind h.zones (s.muted d)
    exact ⟨trigger.1.trans muted.1, trigger.2.trans muted.2⟩

theorem leaveEnrolling_due_trk (s : State) : s.leaveEnrolling.due = s.due ∧ s.leaveEnrolling.trk = s.trk :=
  ⟨enqueue_due _ _, enqueue_trk _ _⟩

theorem endEnrolment_due_oet (c : ConfigRecord) (s : State) :
    (s.endEnrolment c).due = s.due ∧ ((s.endEnrolment c).trk = s.trk ∨ (s.endEnrolment c).trk = Tracker.reset) := by
  have quarantined (t : State) (k : Trigger) (z : Nat) :
      (t.enterQuarantined c k z).leaveEnrolling.due = t.due ∧ (t.enterQuarantined c k z).leaveEnrolling.trk = t.trk := by
    rw [(leaveEnrolling_due_trk _).1, (leaveEnrolling_due_trk _).2]
    simp [State.enterQuarantined]
  unfold State.endEnrolment
  dsimp only
  split_ifs
  · have muted := enterMute_due_trk c (.configMinority (s.peerCount false) (s.peerCount true)) s
    exact ⟨muted.1, .inr muted.2⟩
  · exact (quarantined _ _ _).imp_right .inl
  · exact (quarantined _ _ _).imp_right .inl
  · exact (leaveEnrolling_due_trk _).imp_right .inl

theorem enrolmentWork_due_oet (c : ConfigRecord) (s : State) : (s.enrolmentWork c).due = { s.due with enrolment := false } ∧
    ((s.enrolmentWork c).trk = s.trk ∨ (s.enrolmentWork c).trk = Tracker.reset) := by
  unfold State.enrolmentWork
  split
  · dsimp only
    split
    · exact ⟨enqueue_due _ _, .inl (enqueue_trk _ _)⟩
    · exact endEnrolment_due_oet c _
  · exact ⟨rfl, .inl rfl⟩

/-! ### Nothing partway -/

/-- A change after which no entry is old and no work has been begun leaves nothing partway. -/
theorem quiet_of_eq (h : Quiet s) (trk : t.trk.oet = s.trk.oet ∨ t.trk = Tracker.reset) (evidence : t.due.evidence ≤ 1)
    (receiver : t.due.receiver ≤ 1) (run : t.due.run = []) : Quiet t := by
  obtain ⟨⟨ages, -⟩, -⟩ := h
  refine ⟨⟨?_, evidence, receiver⟩, run⟩
  obtain e | e := trk <;> rw [e]
  · exact ages
  · simp [Tracker.reset]

theorem quiet_crossBoundary (h : Quiet s) : Quiet s.crossBoundary := quiet_of_eq h (.inl rfl) le_rfl le_rfl h.2

theorem quiet_blindWork (h : Quiet s) : Quiet s.blindWork := by
  refine quiet_of_eq h (.inl (blindWork_oet s)) ?_ ?_ ?_ <;> rw [blindWork_due]
  · exact h.1.2.1
  · exact h.1.2.2
  · exact h.2

theorem quiet_evidenceWork (c : ConfigRecord) (h : Quiet s) : Quiet (s.evidenceWork c) := by
  refine quiet_of_eq h (.inl (by rw [evidenceWork_trk])) ?_ ?_ ?_ <;> rw [evidenceWork_due]
  · exact Nat.zero_le _
  · exact h.1.2.2
  · exact h.2

theorem quiet_receiverWork (c : ConfigRecord) (h : Quiet s) : Quiet (s.receiverWork c) := by
  refine quiet_of_eq h (.inl (by rw [receiverWork_trk])) ?_ ?_ ?_ <;> rw [receiverWork_due]
  · exact h.1.2.1
  · exact Nat.zero_le _
  · exact h.2

theorem quiet_transmitterWork (c : ConfigRecord) (h : Quiet s) : Quiet (s.transmitterWork c) := by
  refine quiet_of_eq h (.inl (by rw [transmitterWork_trk])) ?_ ?_ ?_ <;> rw [transmitterWork_due]
  · exact h.1.2.1
  · exact h.1.2.2
  · exact h.2

theorem quiet_enrolmentWork (c : ConfigRecord) (h : Quiet s) : Quiet (s.enrolmentWork c) := by
  obtain ⟨due, trk⟩ := enrolmentWork_due_oet c s
  refine quiet_of_eq h (trk.imp_left fun e => by rw [e]) ?_ ?_ ?_ <;> rw [due]
  · exact h.1.2.1
  · exact h.1.2.2
  · exact h.2

theorem expireAll_of_ages (c : ConfigRecord) (ages : ∀ e ∈ s.trk.oet, e.age < 4) : s.expireAll c = s := by
  rw [State.expireAll, List.countP_eq_zero.2 fun e he => by simpa [expiring] using ages e he]
  rfl

/-- Where only expiries may be outstanding, settling carries them out. -/
theorem settle_eq_expireAll (hc : s.ctl.config = some c) (run : s.due.run = []) (evidence : s.due.evidence ≤ 1)
    (receiver : s.due.receiver ≤ 1) : s.settle = s.expireAll c := by
  have expired : s.finishExpiries = s.expireAll c := by unfold State.finishExpiries; rw [hc]
  rw [settle_of_run_nil run, State.finishWorks, expired, finishEvidence_of_quiet _ (by rw [expireAll_due]; exact evidence),
    finishReceiver_of_quiet _ (by rw [expireAll_due]; exact receiver)]

/-! ### Class ticks -/

theorem takeClassTick_due (k : Fin 4) (s : State) :
    (s.takeClassTick k).due = { s.due with classTicks := s.due.classTicks.filter fun j => decide (j ≠ k) } := rfl

theorem classTickWork_due (c : ConfigRecord) (k : Fin 4) (s : State) :
    (s.classTickWork c k).due = { s.due with classTicks := s.due.classTicks.filter fun j => decide (j ≠ k) } := by
  unfold State.classTickWork
  split
  · rw [expireAll_due, takeClassTick_due]
  · rename_i h
    have same : s.due.classTicks.filter (fun j => decide (j ≠ k)) = s.due.classTicks :=
      List.filter_eq_self.2 fun j hj => by simpa using fun e : j = k => h (e ▸ hj)
    rw [same]

theorem quiet_classTickWork (c : ConfigRecord) (k : Fin 4) (h : Quiet s) : Quiet (s.classTickWork c k) := by
  obtain ⟨⟨ages, evidence, receiver⟩, run⟩ := h
  refine ⟨⟨classTickWork_ages k ages, ?_, ?_⟩, ?_⟩ <;> rw [classTickWork_due] <;> assumption

theorem foldl_classTickWork_due (c : ConfigRecord) (l : List (Fin 4)) (s : State) :
    (l.foldl (fun t k => t.classTickWork c k) s).due =
      { s.due with classTicks := s.due.classTicks.filter fun j => decide (j ∉ l) } := by
  induction l generalizing s with
  | nil => simp
  | cons k rest ih =>
    rw [List.foldl_cons, ih, classTickWork_due]
    simp [List.filter_filter, not_or, Bool.and_comm]

theorem quiet_foldl_classTickWork (c : ConfigRecord) (l : List (Fin 4)) (h : Quiet s) :
    Quiet (l.foldl (fun t k => t.classTickWork c k) s) := by
  induction l generalizing s with
  | nil => exact h
  | cons k rest ih => exact ih (quiet_classTickWork c k h)

theorem allClassTicks_due (c : ConfigRecord) (s : State) : (s.allClassTicks c).due = { s.due with classTicks := [] } := by
  rw [State.allClassTicks, foldl_classTickWork_due, List.filter_eq_nil_iff.2 fun j hj => by simpa using hj]

/-- A class tick by its command: its expiries are carried out when the state next settles. -/
theorem exec_classTick (hc : s.ctl.config = some c) (k : Fin 4) :
    ∃ t, exec (.classTick k) s = .next t ∧ t.ctl.config = some c ∧ t.settle = s.settle.classTickWork c k := by
  have hc' : s.settle.ctl.config = some c := (settle_config s).trans hc
  obtain ⟨⟨_, evidence, receiver⟩, run⟩ := quiet_settle hc
  by_cases due : k ∈ s.settle.due.classTicks
  · refine ⟨s.settle.takeClassTick k, by simp only [exec, execClassTick, due, if_true], hc', ?_⟩
    rw [settle_eq_expireAll (s := s.settle.takeClassTick k) hc' run evidence receiver, State.classTickWork, if_pos due]
  · refine ⟨s.settle, by simp only [exec, execClassTick, due, if_false], hc', ?_⟩
    rw [settle_settle, State.classTickWork, if_neg due]

theorem afterAll_cons {i : Instr} {rest : List Instr} (h : exec i s = .next t) : afterAll (i :: rest) s = afterAll rest t := by
  rw [afterAll, List.foldl_cons, h]; rfl

theorem afterAll_append (l m : List Instr) (s : State) : afterAll (l ++ m) s = afterAll m (afterAll l s) := List.foldl_append

theorem afterAll_classTicks (l : List (Fin 4)) (hc : s.ctl.config = some c) :
    (afterAll (l.map Instr.classTick) s).ctl.config = some c ∧
      (afterAll (l.map Instr.classTick) s).settle = l.foldl (fun t k => t.classTickWork c k) s.settle := by
  induction l generalizing s with
  | nil => exact ⟨hc, rfl⟩
  | cons k rest ih =>
    obtain ⟨t, ht, hc', settled⟩ := exec_classTick hc k
    rw [List.map_cons, afterAll_cons ht, List.foldl_cons, ← settled]
    exact ih hc'

/-! ### The whole moment -/

/-- The state after the class ticks and the boundary that have fallen. -/
def State.crossed (c : ConfigRecord) (s : State) : State :=
  let s1 := s.settle.allClassTicks c
  if s1.due.boundary then s1.crossBoundary else s1

theorem catchUp_eq (c : ConfigRecord) (s : State) :
    s.catchUp c = ((((s.crossed c).blindWork.evidenceWork c).receiverWork c).transmitterWork c).enrolmentWork c := rfl

theorem quiet_crossed (hc : s.ctl.config = some c) : Quiet (s.crossed c) := by
  have ticked : Quiet (s.settle.allClassTicks c) := quiet_foldl_classTickWork c _ (quiet_settle hc)
  unfold State.crossed
  dsimp only
  split
  · exact quiet_crossBoundary ticked
  · exact ticked

theorem crossed_config (c : ConfigRecord) (s : State) : (s.crossed c).ctl.config = s.ctl.config :=
  (((settle_stationFrame s).trans (allClassTicks_stationFrame c _)).trans (.ite_self (crossBoundary_stationFrame _))).config

theorem crossed_due (c : ConfigRecord) (s : State) : (s.crossed c).due.classTicks = [] ∧ (s.crossed c).due.boundary = false := by
  have ticked : (s.settle.allClassTicks c).due.classTicks = [] := by rw [allClassTicks_due]
  unfold State.crossed
  dsimp only
  split
  · exact ⟨ticked, rfl⟩
  · exact ⟨ticked, Bool.eq_false_iff.2 ‹_›⟩

theorem quiet_catchUp (hc : s.ctl.config = some c) : Quiet (s.catchUp c) :=
  quiet_enrolmentWork c (quiet_transmitterWork c (quiet_receiverWork c (quiet_evidenceWork c (quiet_blindWork (quiet_crossed hc)))))

theorem catchUp_due (hc : s.ctl.config = some c) : (s.catchUp c).due = Due.none := by
  have run := (quiet_crossed hc).2
  obtain ⟨ticks, boundary⟩ := crossed_due c s
  rw [catchUp_eq, (enrolmentWork_due_oet c _).1, transmitterWork_due, receiverWork_due, evidenceWork_due, blindWork_due]
  dsimp only
  rw [Due.none, run, ticks, boundary]

/-- Where nothing is due the moment is over. -/
theorem catchUp_of_due_none (quiet : Quiet s) (due : s.due = Due.none) : s.catchUp c = s := by
  have blind : s.blindWork = s := if_neg (by rw [due]; exact Bool.false_ne_true)
  have evidence : s.evidenceWork c = s := if_neg (by rw [due]; decide)
  have receiver : s.receiverWork c = s := if_neg (by rw [due]; decide)
  have transmitter : s.transmitterWork c = s := if_neg (by rw [due]; exact Bool.false_ne_true)
  have enrolment : s.enrolmentWork c = s := by
    rw [State.enrolmentWork, if_neg (by rw [due]; exact fun h => Bool.false_ne_true h.1)]
    show ({ s with due := { s.due with enrolment := false } } : State) = s
    rw [show ({ s.due with enrolment := false } : Due) = s.due by rw [due]; rfl]
  have crossed : s.crossed c = s := by
    have ticks : s.allClassTicks c = s := by rw [State.allClassTicks, due]; rfl
    rw [State.crossed, settle_of_quiet s quiet, ticks]
    exact if_neg (by rw [due]; exact Bool.false_ne_true)
  rw [catchUp_eq, crossed, blind, evidence, receiver, transmitter, enrolment]

/-- The moment's work is its own commands, in the order of Log 4. -/
theorem catchUp_eq_afterAll (hc : s.ctl.config = some c) :
    s.catchUp c = afterAll (s.due.classTicks.map Instr.classTick ++
      [.epochBoundary, .blindPeriodEnd, .evidenceBoundaryWork, .noteReceiverBoundaryWork, .noteTransmitterBoundaryWork,
       .enrolmentStep]) s := by
  obtain ⟨_, ticked⟩ := afterAll_classTicks s.due.classTicks hc
  have crossed : exec .epochBoundary (afterAll (s.due.classTicks.map Instr.classTick) s) = .next (s.crossed c) := by
    have fold : s.due.classTicks.foldl (fun t k => t.classTickWork c k) s.settle = s.settle.allClassTicks c := by
      rw [State.allClassTicks, settle_due hc]
    rw [exec, execEpochBoundary, ticked, fold]
    rfl
  have q0 := quiet_crossed hc
  have hc0 := (crossed_config c s).trans hc
  have q1 := quiet_blindWork q0
  have hc1 : (s.crossed c).blindWork.ctl.config = some c := by rw [blindWork_ctl]; exact hc0
  have q2 := quiet_evidenceWork c q1
  have hc2 := (evidenceWork_stationFrame c _).config.trans hc1
  have q3 := quiet_receiverWork c q2
  have hc3 := (receiverWork_stationFrame c _).config.trans hc2
  have q4 := quiet_transmitterWork c q3
  have hc4 : ((((s.crossed c).blindWork.evidenceWork c).receiverWork c).transmitterWork c).ctl.config = some c := by
    rw [transmitterWork_ctl]; exact hc3
  have evidence {t : State} (q : Quiet t) : t.finishRun.finishExpiries.finishReceiver = t :=
    (finishBeforeEvidence_eq_settle q.1.2.1).trans (settle_of_quiet t q)
  have receiver {t : State} (q : Quiet t) : t.finishRun.finishExpiries.finishEvidence = t :=
    (finishBeforeReceiver_eq_settle q.1.2.2).trans (settle_of_quiet t q)
  rw [afterAll_append, afterAll_cons crossed,
    afterAll_cons (t := (s.crossed c).blindWork) (by rw [exec, execBlindPeriodEnd, settle_of_quiet _ q0]),
    afterAll_cons (t := (s.crossed c).blindWork.evidenceWork c) (by simp only [exec, execEvidenceBoundaryWork, evidence q1, hc1]),
    afterAll_cons (by simp only [exec, execNoteReceiverBoundaryWork, receiver q2, hc2]; rfl),
    afterAll_cons (by simp only [exec, execNoteTransmitterBoundaryWork, settle_of_quiet _ q3, hc3]; rfl),
    afterAll_cons (by simp only [exec, execEnrolmentStep, settle_of_quiet _ q4, hc4]; rfl)]
  rfl

/-- A run whose first request has been carried out by itself goes on as it would have. -/
theorem settle_exec_carryOut (hc : s.ctl.config = some c) {r : Request} {rest : List Request} (run : s.due.run = r :: rest)
    (ht : t = (s.holding rest).carryOut c r) : s.settle = t.settle ∧
      ∀ i, (settlesFirst i = true ∨ evidencePart i = true ∨ receiverPart i = true ∨ i = .oetEntryExpiry) → exec i s = exec i t := by
  have finished : s.finishRun = t.finishRun := ht ▸ (finishRun_carryOut hc run).symm
  have config : s.ctl.config = t.ctl.config := by rw [ht, (carryOut_stationFrame c r _).config]; rfl
  exact ⟨by rw [State.settle, State.settle, finished], fun i begins => exec_of_finishRun_eq begins config finished⟩

/-- One lookup by its outcome (R73, R74). -/
theorem lookupAndRebut_eq (c : ConfigRecord) (a : Nat) (k : AccKind) (t : Half) (s : State) : s.lookupAndRebut c a k t =
    if s.ctl.station = .running ∧ lookupAnswer s.trk.answers a t = some true then
      if poolUse s.xmt.buffer .rebut < poolSize .rebut ∨ poolUse s.xmt.buffer .shared < poolSize .shared then
        (s.enqueue (.rebut a t k)).takeRebut c s.ownSlot a t k
      else s.latchFlag noteDropped
    else s := by
  unfold State.lookupAndRebut
  by_cases running : s.ctl.station = .running
  · rw [offerRebut_of_running running]
    simp only [running, true_and]
  · simp only [running, false_and, if_false, State.offerRebut, ite_self]

/-- Settles O3: settling part by part, a run by its first request, and the moment's work by its commands. -/
theorem begunRequestsAreFinishedFirst : Obligations.BegunRequestsAreFinishedFirst := by
  refine ⟨settle_of_quiet, fun s stored => ?_, settle_settle, fun i s h => (exec_settle i s h).symm,
    fun i s h idle => (exec_evidencePart_settle i s h idle).symm, fun i s h idle => (exec_receiverPart_settle i s h idle).symm,
    fun s c r rest hc run => ?_, fun s stored run outstanding => ?_, fun s stored run ages => ?_, finishWorks_eq_settle_holding,
    fun s stored => ?_, fun s => ?_, fun s => ?_, fun s slot h => exec_readView_finishWorks slot h, fun s c hc => ?_⟩
  · obtain ⟨c, hc⟩ := Option.isSome_iff_exists.1 stored
    exact quiet_settle hc
  · have outcome (t : State) (ht : t = (s.holding rest).carryOut c r) := settle_exec_carryOut hc run ht
    cases r with
    | addTagged => intro u free t; exact outcome t rfl
    | addSurplus => intro u free t; exact outcome t rfl
    | lookup a k tag =>
      intro u free t
      have outcomes := lookupAndRebut_eq c a k tag (s.holding rest)
      dsimp only [poolUse, holding_ctl, holding_trk, holding_xmt] at outcomes
      exact outcome t outcomes.symm
    | count => intro u free t; exact outcome t rfl
  · obtain ⟨c, hc⟩ := Option.isSome_iff_exists.1 stored
    exact ⟨s.expireOldest c, by simp only [exec, execOetEntryExpiry, hc, finishRun_of_none s run],
      (settle_expireOldest hc run outstanding).symm⟩
  · obtain ⟨c, hc⟩ := Option.isSome_iff_exists.1 stored
    exact ⟨exec_evidenceBoundaryWork_of_begun hc run ages, exec_noteReceiverBoundaryWork_of_begun hc run ages⟩
  · obtain ⟨c, hc⟩ := Option.isSome_iff_exists.1 stored
    exact readable_finishWorks hc
  · rw [finishWorks_eq_settle_holding]; rfl
  · simp only [exec, execReadStatus, finishWorks_finishWorks]
  · refine ⟨catchUp_eq_afterAll hc, catchUp_due hc, quiet_catchUp hc, ?_⟩
    simp only [exec, execMsTick, hc, (catchUp_stationFrame c s).config, catchUp_of_due_none (quiet_catchUp hc) (catchUp_due hc)]

end Sys2Proof.Machine
end

section
/-! The tap (chapter 1): a frame as it is examined, the records taken from the FIFO, and the answer list. -/

namespace Sys2Proof.Machine

open Sys2Proof.Safety

variable {s : State} {c : ConfigRecord}

/-! ### The fields of a tap record as numbers (Table 11-2) -/

theorem tapSlot_eq_div (b : Byte) : tapSlot b = b.toNat / 8 := by
  have := b.isLt
  simp only [tapSlot, BitVec.extractLsb'_toNat, Nat.shiftRight_eq_div_pow]
  omega

/-- The frame kind is read from the two upper bits. -/
theorem tapKind_eq (b : Byte) : tapKind b =
    if b.toNat / 64 = 0 then .request else if b.toNat / 64 = 1 then .response else if b.toNat / 64 = 2 then .cancel else .other := by
  have bits : (b.extractLsb' 6 2).toNat = b.toNat / 64 := by
    have := b.isLt
    simp only [BitVec.extractLsb'_toNat, Nat.shiftRight_eq_div_pow]
    omega
  simp only [tapKind, ← bits, BitVec.toNat_eq]
  rfl

theorem toNat_tapClass (b : Byte) : (b.extractLsb' 4 2).toNat = b.toNat / 16 % 4 := by
  simp only [BitVec.extractLsb'_toNat, Nat.shiftRight_eq_div_pow]

theorem getLsbD_three (b : Byte) : b.getLsbD 3 = decide (b.toNat / 8 % 2 = 1) := by
  rw [BitVec.getLsbD, Nat.testBit_eq_decide_div_mod_eq]

theorem halfAt_eq_ofNat (bs : List Byte) (i : Nat) : halfAt bs i = BitVec.ofNat 16 (256 * (byteAt bs i).toNat + (byteAt bs (i + 1)).toNat) := by
  rw [← toNat_halfAt, BitVec.ofNat_toNat, BitVec.setWidth_eq]

/-! ### Which frames are examined and stored -/

theorem examinesTap_iff (s : State) :
    s.examinesTap = true ↔ s.ctl.inReset = false ∧ (s.ctl.station = .running ∨ s.ctl.station = .quarantined) := by
  simp [State.examinesTap]

/-- A record with a direction is stored with its fields. -/
theorem tapEntry_cons (own : Nat) (b0 b1 b2 b3 b4 : Byte) (rest : List Byte) : tapEntry own (b0 :: b1 :: b2 :: b3 :: b4 :: rest) =
    if b0.toNat / 64 = 3 then none
    else (tapDirection own (b1.toNat / 8) (b2.toNat / 8)).map fun dp =>
      { kind := tapKind b0, cls := b0.toNat / 16 % 4, good := decide (b0.toNat / 8 % 2 = 1), dir := dp.1, peer := dp.2,
        tag := BitVec.ofNat 16 (256 * b3.toNat + b4.toNat) } := by
  have other : tapKind b0 = .other ↔ b0.toNat / 64 = 3 := by
    have := b0.isLt
    rw [tapKind_eq]
    split_ifs <;> simp <;> omega
  simp only [tapEntry, byteAt, List.getD_cons_zero, List.getD_cons_succ, other, tapSlot_eq_div, toNat_tapClass, getLsbD_three,
    halfAt_eq_ofNat]

/-- A frame of six bytes or more, by its check and its entry. -/
theorem takeTapFrame_cons (examined : s.examinesTap = true) (b0 b1 b2 b3 b4 b5 : Byte) (rest : List Byte) :
    s.takeTapFrame (b0 :: b1 :: b2 :: b3 :: b4 :: b5 :: rest) =
      if b0 ^^^ b1 ^^^ b2 ^^^ b3 ^^^ b4 = b5 then
        (tapEntry s.ownSlot (b0 :: b1 :: b2 :: b3 :: b4 :: b5 :: rest)).elim s fun e => s.storeTap e
      else s.latchFlag tapGarbled := by
  have check : tapCheck (b0 :: b1 :: b2 :: b3 :: b4 :: b5 :: rest) = decide (b0 ^^^ b1 ^^^ b2 ^^^ b3 ^^^ b4 = b5) := rfl
  have long : ¬ (b0 :: b1 :: b2 :: b3 :: b4 :: b5 :: rest).length < 6 := by simp
  by_cases h : b0 ^^^ b1 ^^^ b2 ^^^ b3 ^^^ b4 = b5
  · simp only [State.takeTapFrame, examined, check, h, long, decide_true, Bool.not_true, Bool.false_eq_true, if_false, if_true]
    cases tapEntry s.ownSlot (b0 :: b1 :: b2 :: b3 :: b4 :: b5 :: rest) <;> rfl
  · simp only [State.takeTapFrame, examined, check, h, long, decide_false, Bool.not_true, Bool.not_false, Bool.false_eq_true, if_false,
      if_true]

theorem takeTapFrame_of_not_examined (h : ¬ s.examinesTap = true) (bytes : List Byte) : s.takeTapFrame bytes = s := by
  simp [State.takeTapFrame, h]

theorem takeTapFrame_short (examined : s.examinesTap = true) {bytes : List Byte} (short : bytes.length < 6) :
    s.takeTapFrame bytes = s.latchFlag tapGarbled := by simp [State.takeTapFrame, examined, short]

/-- Settles O6: the examination case by case, the fields as numbers. -/
theorem tapFrameIsExamined : Obligations.TapFrameIsExamined := by
  intro s b0 b1 b2 b3 b4 b5 rest quiet frame source destination stored examined
  have taken (bytes : List Byte) : exec (.tapRecord bytes) s = .next (s.takeTapFrame bytes) := by
    rw [exec, execTapRecord, settle_of_quiet s quiet]
  have kind : b0.toNat / 64 < 4 := by have := b0.isLt; omega
  refine ⟨fun h => ?_, fun h bad => ?_, fun h good => ?_, fun short length => ?_⟩
  · rw [taken, takeTapFrame_of_not_examined fun e => h ((examinesTap_iff s).1 e)]
  · rw [taken, takeTapFrame_cons ((examinesTap_iff s).2 h), if_neg bad]
  · have whole : exec (.tapRecord frame) s = .next ((tapEntry s.ownSlot frame).elim s fun e => s.storeTap e) := by
      rw [taken, takeTapFrame_cons ((examinesTap_iff s).2 h), if_pos good]
    rw [whole, tapEntry_cons]
    refine ⟨fun other => by rw [if_pos other]; rfl, fun k hk => ?_⟩
    have known : ¬ b0.toNat / 64 = 3 := by omega
    have named : tapKind b0 = k := by
      rw [tapKind_eq]
      obtain ⟨e, rfl⟩ | ⟨e, rfl⟩ | ⟨e, rfl⟩ := hk <;> simp [e]
    rw [if_neg known, named]
    refine ⟨fun hs hd low high => ?_, fun hd hs low high => ?_, fun unfit => ?_⟩
    · rw [tapDirection, if_pos ⟨hs, hd, low, high⟩]; rfl
    · rw [tapDirection, if_neg fun e => hs e.1, if_pos ⟨hd, hs, low, high⟩]; rfl
    · rw [tapDirection, if_neg ?_, if_neg ?_]
      · rfl
      · rintro ⟨own, other, low, high⟩
        obtain both | ⟨_, outside⟩ | ⟨_, outside⟩ := unfit
        · exact other (both.2 own)
        · omega
        · omega
      · rintro ⟨own, other, low, high⟩
        obtain both | ⟨_, outside⟩ | ⟨_, outside⟩ := unfit
        · exact other (both.1 own)
        · omega
        · omega
  · have incomplete : exec (.tapRecordIncomplete short) s = .next (s.takeTapFrame (short.take 5)) := by
      rw [exec, execTapRecordIncomplete, settle_of_quiet s quiet]
    have length5 : (short.take 5).length < 6 := by rw [List.length_take]; omega
    rw [incomplete]
    exact ⟨fun h => by rw [takeTapFrame_short ((examinesTap_iff s).2 h) length5], fun h => by
      rw [takeTapFrame_of_not_examined fun e => h ((examinesTap_iff s).1 e)]⟩

/-! ### The records taken from the FIFO -/

theorem exec_takeTapRecord (quiet : Quiet s) (hc : s.ctl.config = some c) {r : TapEntry} {rest : List TapEntry}
    (fifo : s.trk.tapFifo = r :: rest) :
    exec .takeTapRecord s = .next (({ s with trk := { s.trk with tapFifo := rest } } : State).processRecord c r) := by
  simp only [exec, execTakeTapRecord, settle_of_quiet s quiet, hc, fifo]

/-- When a REQUEST is tracked, by numbers (R8, R9). -/
theorem tracked_iff (c : ConfigRecord) (s : State) (r : TapEntry) :
    (r.good && decide (timeoutCode c r.cls ≠ 0) && !s.trk.oet.any (isExchange r.dir r.peer r.tag) && s.requestEligible c r) = true ↔
      r.good = true ∧ c.timeouts.getD r.cls 0 ≠ 0 ∧ (∀ e ∈ s.trk.oet, ¬ (e.dir = r.dir ∧ e.peer = r.peer ∧ e.tag = r.tag)) ∧
        tagEligible c s.trk.level r.tag = true ∧ (s.entry r.peer).presence ≠ .unseen ∧
        watched c s.ctl.role (s.entry r.peer).role r.dir = true := by
  simp [State.requestEligible, timeoutCode, isExchange, and_assoc]

/-- Settles O7: a REQUEST is passed over, inserted or refused. -/
theorem requestIsTracked : Obligations.RequestIsTracked := by
  intro s c r rest quiet hc
  refine ⟨fun empty => by simp only [exec, execTakeTapRecord, settle_of_quiet s quiet, hc, empty], fun fifo kind => ?_⟩
  intro requester responder tracked
  have watch : watched c s.ctl.role (s.entry r.peer).role r.dir =
      c.watch.getLsbD ((roleCode requester).toNat * 4 + (roleCode responder).toNat) := by
    simp only [requester, responder]
    cases r.dir <;> rfl
  have iff : _ ↔ tracked := watch ▸ tracked_iff c { s with trk := { s.trk with tapFifo := rest } } r
  have taken : exec .takeTapRecord s = .next (({ s with trk := { s.trk with tapFifo := rest } } : State).processRequest c r) := by
    rw [exec_takeTapRecord quiet hc fifo, State.processRecord, kind]
  rw [taken, State.processRequest]
  refine ⟨fun h => ?_, fun h room => ?_, fun h full => ?_⟩
  · rw [if_neg fun e => h (iff.1 e)]
  · rw [if_pos (iff.2 h), State.insertExchange, if_pos room]; rfl
  · rw [if_pos (iff.2 h), State.insertExchange, if_neg (by simpa using full)]

theorem isExchange_iff (dir : Direction) (peer : Nat) (tag : Half) (e : OetEntry) :
    isExchange dir peer tag e = true ↔ e.dir = dir ∧ e.peer = peer ∧ e.tag = tag := by simp [isExchange, and_assoc]

theorem eq_opposite_iff (d e : Direction) : d = e.opposite ↔ d ≠ e := by cases d <;> cases e <;> simp [Direction.opposite]

theorem isExchange_opposite_iff (r : TapEntry) (e : OetEntry) :
    isExchange r.dir.opposite r.peer r.tag e = true ↔ e.dir ≠ r.dir ∧ e.peer = r.peer ∧ e.tag = r.tag := by
  rw [isExchange_iff, eq_opposite_iff]

/-- A removal takes out the first entry that is meant. -/
theorem removeExchange_of_split (c : ConfigRecord) {q : OetEntry → Bool} {before after : List OetEntry} {e : OetEntry}
    (table : s.trk.oet = before ++ e :: after) (first : ∀ f ∈ before, q f = false) (found : q e = true) :
    s.removeExchange c q = { s with trk := { s.trk with
      oet := before ++ after,
      level := if (before ++ after).length ≤ c.low ∧ 0 < s.trk.level then s.trk.level - 1 else s.trk.level } } := by
  simp only [State.removeExchange, table, eraseP_append_cons first found, loweredLevel]

/-- An answer is put behind the others, the oldest of 128 dropped. -/
theorem appendAnswer_eq (l : List Answer) (a : Answer) : appendAnswer l a = (if l.length < 128 then l else l.tail) ++ [a] := by
  unfold appendAnswer; split <;> rfl

/-- Settles O8: a RESPONSE or a CANCEL removes the first entry that it matches, and a RESPONSE is offered to the answer list. -/
theorem responsesAndCancelsAreMatched : Obligations.ResponsesAndCancelsAreMatched := by
  intro s c r rest quiet hc fifo taken without answered answers cancels
  have processed := exec_takeTapRecord quiet hc fifo
  have offered (u : State) (same : u.trk.answers = s.trk.answers) : u.offerAnswer c r = answered u := by
    simp only [State.offerAnswer, answered, appendAnswer_eq, same, timeoutCode]
  have response (kind : r.kind = .response) : exec .takeTapRecord s = .next ((taken.matchResponse c r).offerAnswer c r) := by
    rw [processed, State.processRecord, kind]; rfl
  have cancel (kind : r.kind = .cancel) : exec .takeTapRecord s = .next (taken.processCancel c r) := by
    rw [processed, State.processRecord, kind]
  refine ⟨fun kind none => ?_, fun kind none => ?_, fun before after e table => ⟨fun kind first found => ?_, fun kind first found => ?_⟩⟩
  · have unmatched : taken.trk.oet.find? (isExchange r.dir.opposite r.peer r.tag) = .none :=
      List.find?_eq_none.2 fun e he h => none e he ((isExchange_opposite_iff r e).1 h)
    rw [response kind, State.matchResponse, unmatched, offered taken rfl]
  · have unmatched : ¬ taken.trk.oet.any (isExchange r.dir r.peer r.tag) = true := fun h => by
      obtain ⟨e, he, found⟩ := List.any_eq_true.1 h
      exact none e he ((isExchange_iff ..).1 found)
    rw [cancel kind, State.processCancel, if_neg unmatched]
  · have skipped : ∀ f ∈ before, isExchange r.dir.opposite r.peer r.tag f = false := fun f hf =>
      Bool.eq_false_iff.2 fun h => first f hf ((isExchange_opposite_iff r f).1 h)
    have hit := (isExchange_opposite_iff r e).2 found
    have table' : taken.trk.oet = before ++ e :: after := table
    have matched : taken.trk.oet.find? (isExchange r.dir.opposite r.peer r.tag) = some e := by
      rw [table', find?_append_cons skipped hit]
    have removed : taken.removeExchange c (isExchange r.dir.opposite r.peer r.tag) = without (before ++ after) :=
      removeExchange_of_split c table' skipped hit
    rw [response kind, State.matchResponse, matched]
    dsimp only
    rw [removed]
    refine ⟨fun good => ?_, fun bad => ?_⟩
    · rw [if_pos good, offered (without (before ++ after)) rfl]
    · rw [if_neg (by simp [bad]), offered _ (by rw [observe_trk])]
      rfl
  · have skipped : ∀ f ∈ before, isExchange r.dir r.peer r.tag f = false := fun f hf =>
      Bool.eq_false_iff.2 fun h => first f hf ((isExchange_iff ..).1 h)
    have hit := (isExchange_iff ..).2 found
    have table' : taken.trk.oet = before ++ e :: after := table
    rw [cancel kind, State.processCancel, if_pos (by rw [table', List.any_append, List.any_cons, hit]; simp),
      removeExchange_of_split c table' skipped hit]

/-! ### Expiries -/

/-- Settles O23: the oldest entry of age 4 or more is taken out, and missed unless the station is blind. -/
theorem oldestExpiringEntryIsRemoved : Obligations.OldestExpiringEntryIsRemoved := by
  intro s c hc run
  have expired : exec .oetEntryExpiry s = .next (s.expireOldest c) := by
    simp only [exec, execOetEntryExpiry, hc, finishRun_of_none s run]
  rw [expired]
  refine ⟨fun young => ?_, fun before after e table first old => ?_⟩
  · have none : s.trk.oet.find? expiring = .none := List.find?_eq_none.2 fun e he => by have := young e he; simp [expiring]; omega
    rw [State.expireOldest, none]
  · intro left
    have skipped : ∀ f ∈ before, expiring f = false := fun f hf => by have := first f hf; simp [expiring]; omega
    have hit : expiring e = true := by simpa [expiring] using old
    have removed : s.removeExchange c expiring = left := removeExchange_of_split c table skipped hit
    rw [State.expireOldest, table, find?_append_cons skipped hit]
    dsimp only
    rw [removed]
    refine ⟨fun blind => by rw [if_pos blind], fun sighted => ?_⟩
    rw [if_neg (show ¬ 0 < s.trk.blind by omega)]
    rfl

/-! ### The answer list -/

/-- Settles O10: the search from the newest entry on. -/
theorem lookupFindsTheNewestAnswer : Obligations.LookupFindsTheNewestAnswer := by
  intro l requester tag
  have meant (a : Answer) : (decide (a.requester = requester) && decide (a.tag = tag)) = true ↔ a.requester = requester ∧ a.tag = tag := by
    simp
  refine ⟨?_, fun good => ?_⟩
  · rw [lookupAnswer, Option.map_eq_none_iff, List.find?_eq_none]
    simp only [List.mem_reverse, meant]
  · rw [lookupAnswer, Option.map_eq_some_iff]
    constructor
    · rintro ⟨a, found, rfl⟩
      obtain ⟨hit, before, after, split, first⟩ := List.find?_eq_some_iff_append.1 found
      obtain ⟨rfl, rfl⟩ := (meant a).1 hit
      refine ⟨after.reverse, before.reverse, ?_, fun b hb => ?_⟩
      · rw [← List.reverse_reverse l, split]; simp
      · simpa [imp_iff_not_or] using first b (List.mem_reverse.1 hb)
    · rintro ⟨older, newer, rfl, none⟩
      refine ⟨{ requester := requester, tag := tag, good := good }, ?_, rfl⟩
      rw [List.reverse_append, List.reverse_cons, List.append_assoc]
      exact find?_append_cons (fun b hb => Bool.eq_false_iff.2 fun h => none b (List.mem_reverse.1 hb) ((meant b).1 h)) (by simp)

end Sys2Proof.Machine
end

section
/-! Observations, accusations, items of evidence and standings as the statements give them (chapters 2, 3, 5, 7 and 10). -/

namespace Sys2Proof.Machine

open Sys2Proof.Safety

variable {s : State} {c : ConfigRecord}

/-! ### Flags and notices -/

theorem markNewest_append (older : List Notice) (newest : Notice) :
    markNewest (older ++ [newest]) = older ++ [{ newest with overrun := true }] := by
  induction older with
  | nil => rfl
  | cons n rest ih =>
    cases rest with
    | nil => rfl
    | cons m rest => rw [List.cons_append, List.cons_append, markNewest, ← List.cons_append, ih]; rfl

/-- Settles O21: the posting with room and without. -/
theorem flagsAndNoticesArePosted : Obligations.FlagsAndNoticesArePosted := by
  refine ⟨rfl, fun _ _ => rfl, fun s b => ⟨fun room => ?_, fun older newest split full => ?_⟩, fun s => ?_⟩
  · obtain ⟨_, e⟩ | ⟨full, _⟩ := s.post_cases b
    · exact e
    · omega
  · obtain ⟨room, _⟩ | ⟨_, e⟩ := s.post_cases b
    · omega
    · rw [e, split, markNewest_append]; rfl
  · rw [State.alertN, List.isEmpty_eq_false_iff_exists_mem]

/-! ### Additions to the pending list -/

theorem isSlot_iff (x : Nat) : isSlot x = true ↔ 1 ≤ x ∧ x ≤ 24 := by simp [isSlot]

theorem isTagged_iff (x a : Nat) (t : Half) (e : Accusation) :
    isTagged x a t e = true ↔ e.accuser = x ∧ e.accused = a ∧ e.load = .tagged t := by simp [isTagged, and_assoc]

theorem isUntagged_iff (x a : Nat) (k : AccKind) (e : Accusation) :
    isUntagged x a k e = true ↔ e.accuser = x ∧ e.accused = a ∧ e.kind = k ∧ ∃ j, e.load = .untagged j := by
  unfold isUntagged
  cases e.load <;> simp [and_assoc]

theorem appendEntry_of_room (room : s.eng.accusations.length < 48) (x a : Nat) (k : AccKind) (load : Load) :
    s.appendEntry c x a k load = s.setAccusations (s.eng.accusations ++ [⟨x, a, k, load, s.evidenceEpoch⟩]) := by
  rw [State.appendEntry, if_pos room]

theorem appendEntry_of_full (full : 48 ≤ s.eng.accusations.length) (x a : Nat) (k : AccKind) (load : Load) :
    s.appendEntry c x a k load =
      (s.promote c).setAccusations ((s.promote c).eng.accusations ++ [⟨x, a, k, load, s.evidenceEpoch⟩]) := by
  rw [State.appendEntry, if_neg (by omega), (promote_frame c s).evidenceEpoch]

theorem addTagged_of_slots {x a : Nat} (hx : isSlot x = true) (ha : isSlot a = true) (k : AccKind) (t : Half) :
    s.addTagged c x a k t = if s.eng.accusations.any (isTagged x a t) then s else s.appendEntry c x a k (.tagged t) := by
  rw [State.addTagged, hx, ha]; rfl

theorem addSurplus_of_slots {x a : Nat} (hx : isSlot x = true) (ha : isSlot a = true) (k : AccKind) (n : Nat) :
    s.addSurplus c x a k n = if s.eng.accusations.any (isUntagged x a k) then
        s.setAccusations (s.eng.accusations.map fun e => if isUntagged x a k e then addSurplusTo n e else e)
      else s.appendEntry c x a k (.untagged n) := by
  rw [State.addSurplus, hx, ha]; rfl

/-- A surplus is counted into the one entry that stands for it. -/
theorem map_addSurplusTo_of_split {x a n m : Nat} {k : AccKind} {before after : List Accusation} {e : Accusation}
    (meant : isUntagged x a k e = true) (load : e.load = .untagged m) (only : ∀ f ∈ before ++ after, isUntagged x a k f = false) :
    (before ++ e :: after).map (fun f => if isUntagged x a k f then addSurplusTo n f else f) =
      before ++ { e with load := .untagged (min 255 (m + n)) } :: after := by
  have same (l : List Accusation) (hl : ∀ f ∈ l, f ∈ before ++ after) :
      l.map (fun f => if isUntagged x a k f then addSurplusTo n f else f) = l :=
    (List.map_congr_left fun f hf => by rw [only f (hl f hf)]; rfl).trans (List.map_id l)
  rw [List.map_append, List.map_cons, same before (by simp +contextual), same after (by simp +contextual), if_pos meant]
  simp only [addSurplusTo, load]

/-- Settles O13: an addition is passed over, counted in, or put at the tail, which a promotion may have to clear first. -/
theorem pendingEntriesAreAdded : Obligations.PendingEntriesAreAdded := by
  intro s c x a k t n epoch appended
  refine ⟨fun outside => ?_, fun hx hx' ha ha' => ?_, fun e rest list => by rw [State.promote, list]; simp [applyAndEvaluate_accusations, list]⟩
  · have slot : (isSlot x && isSlot a) = false := by
      rw [Bool.eq_false_iff]
      exact fun h => outside (by simpa [isSlot_iff, and_assoc] using h)
    rw [State.addTagged, State.addSurplus, slot]; exact ⟨rfl, rfl⟩
  have slot_x := (isSlot_iff x).2 ⟨hx, hx'⟩
  have slot_a := (isSlot_iff a).2 ⟨ha, ha'⟩
  rw [addTagged_of_slots slot_x slot_a, addSurplus_of_slots slot_x slot_a]
  refine ⟨fun ⟨e, he, meant⟩ => ?_, fun new => ?_, fun before after e m list hx ha hk load only => ?_, fun new => ?_⟩
  · rw [if_pos (List.any_eq_true.2 ⟨e, he, (isTagged_iff ..).2 meant⟩)]
  · rw [if_neg fun h => by
      obtain ⟨e, he, meant⟩ := List.any_eq_true.1 h
      exact new e he ((isTagged_iff ..).1 meant)]
    exact ⟨fun room => appendEntry_of_room room .., fun full => appendEntry_of_full full ..⟩
  · have meant : isUntagged x a k e = true := (isUntagged_iff ..).2 ⟨hx, ha, hk, m, load⟩
    rw [list, if_pos (by simp [meant]), map_addSurplusTo_of_split meant load fun f hf =>
      Bool.eq_false_iff.2 fun h => only f hf ((isUntagged_iff ..).1 h)]
  · rw [if_neg fun h => by
      obtain ⟨e, he, meant⟩ := List.any_eq_true.1 h
      exact new e he ((isUntagged_iff ..).1 meant)]
    exact ⟨fun room => appendEntry_of_room room .., fun full => appendEntry_of_full full ..⟩

/-! ### Announcements -/

theorem mergeTarget_iff (a : Nat) (k : AccKind) (m : TxNote) :
    mergeTarget a k m = true ↔ m.state = .waiting ∧ ∃ ts n, m.content = .accuse a k ts n := by
  constructor
  · exact mergeTarget_eq_true
  · rintro ⟨waiting, ts, n, content⟩
    simp [mergeTarget, content, waiting]

/-- An announcement that finds its ACCUSE waiting is merged into it. -/
theorem announce_of_target (running : s.ctl.station = .running) {a : Nat} {k : AccKind} {before after : List TxNote} {n : TxNote}
    (buffer : s.xmt.buffer = before ++ n :: after) (first : ∀ m ∈ before, mergeTarget a k m = false) (target : mergeTarget a k n = true)
    (t : Half) : s.announce a k t =
      if mergeLoses t n then (s.setBuffer (before ++ mergeTag t n :: after)).latchFlag noteDropped
      else s.setBuffer (before ++ mergeTag t n :: after) := by
  simp only [State.announce, running, if_true, buffer, findIdx?_append_cons first target, getElem?_append_cons_length, Option.any_some,
    modify_append_cons_length]

theorem announce_of_no_target (running : s.ctl.station = .running) {a : Nat} {k : AccKind}
    (none : ∀ m ∈ s.xmt.buffer, mergeTarget a k m = false) (t : Half) : s.announce a k t =
      match placeFor s.xmt.buffer .accuse with
      | some p => s.setBuffer (s.xmt.buffer ++ [newNote (.accuse a k [t] 0) p])
      | .none => s.latchFlag noteDropped := by
  have unmerged : s.xmt.buffer.findIdx? (mergeTarget a k) = .none := List.findIdx?_eq_none_iff.2 none
  simp only [State.announce, running, if_true, unmerged, State.enqueue, Content.kind]
  cases placeFor s.xmt.buffer .accuse <;> rfl

theorem setBuffer_self (s : State) : s.setBuffer s.xmt.buffer = s := rfl

/-- Settles O12: merged by the note's tags and surplus, else queued by the free slots. -/
theorem accusationIsAnnounced : Obligations.AccusationIsAnnounced := by
  intro s a k t
  refine ⟨fun h => if_neg h, fun running => ⟨fun before after n tags surplus buffer content waiting first => ?_, fun none => ?_⟩⟩
  · have target : mergeTarget a k n = true := (mergeTarget_iff ..).2 ⟨waiting, _, _, content⟩
    rw [announce_of_target running buffer (fun m hm => Bool.eq_false_iff.2 fun h => first m hm ((mergeTarget_iff ..).1 h)) target,
      mergeTag_accuse t content]
    have loses : mergeLoses t n = (!decide (t ∈ tags) && decide (6 ≤ tags.length) && decide (255 ≤ surplus)) := by
      simp only [mergeLoses, content]
    have same : s.setBuffer (before ++ n :: after) = s := buffer ▸ setBuffer_self s
    refine ⟨fun listed => ?_, fun new room => ?_, fun new full below => ?_, fun new full held => ?_⟩
    · rw [if_neg (by simp [loses, listed]), if_pos listed, same]
    · rw [if_neg (by simp [loses]; omega), if_neg new, if_pos room]
    · rw [if_neg (by simp [loses]; omega), if_neg new, if_neg (by omega), show min 255 (surplus + 1) = surplus + 1 by omega]
    · rw [if_pos (by simp [loses, new, full, held]), if_neg new, if_neg (by omega), show min 255 (surplus + 1) = surplus by omega, ← content,
        same]
  · intro use queued
    rw [announce_of_no_target running fun m hm => Bool.eq_false_iff.2 fun h => none m hm ((mergeTarget_iff ..).1 h)]
    have accuse : poolFree s.xmt.buffer .accuse = decide (use .accuse < 3) := rfl
    have shared : poolFree s.xmt.buffer .shared = decide (use .shared < 9) := rfl
    rw [placeFor, accuse, shared]
    refine ⟨fun free => ?_, fun full free => ?_, fun full full' => ?_⟩
    · rw [decide_eq_true free]; rfl
    · rw [decide_eq_false (by omega), decide_eq_true free]; rfl
    · rw [decide_eq_false (by omega), decide_eq_false (by omega)]; rfl

/-! ### Observations -/

/-- An announcement stays in the buffer and the flags. -/
theorem announce_eq (a : Nat) (k : AccKind) (t : Half) (s : State) :
    s.announce a k t = { s with xmt := (s.announce a k t).xmt, lnk := (s.announce a k t).lnk } := by
  obtain e | ⟨_, ⟨i, _, e | e⟩ | ⟨_, e | e⟩⟩ := announce_cases s a k t <;> rw [e]
  · rfl
  · rfl
  · rw [enqueue_eq_setBuffer]; rfl
  · rfl

/-- An announcement goes by neither the engine's tables nor the choices made. -/
theorem announce_congr (eng : Engine) (n : Nat) (a : Nat) (k : AccKind) (t : Half) (s : State) :
    ({ s with eng := eng, choices := n } : State).announce a k t = { s.announce a k t with eng := eng, choices := n } := by
  by_cases running : s.ctl.station = .running
  · rw [State.announce, if_pos (by exact running), State.announce, if_pos running]
    dsimp only
    cases s.xmt.buffer.findIdx? (mergeTarget a k) with
    | some i =>
      dsimp only
      split <;> rfl
    | none =>
      simp only [State.enqueue, Content.kind]
      cases placeFor s.xmt.buffer .accuse <;> rfl
  · rw [State.announce, if_neg (by exact running), State.announce, if_neg running]

/-- The engine's tables with a tagged entry at the list's tail, unless the list holds it or a slot is off the shelf. -/
def Engine.withTagged (x a : Nat) (k : AccKind) (t stamp : Half) (e : Engine) : Engine :=
  if isSlot x && isSlot a && !e.accusations.any (isTagged x a t) then
    { e with accusations := e.accusations ++ [⟨x, a, k, .tagged t, stamp⟩] }
  else e

/-- Where the list has room, or holds the tag, an addition stays in the list. -/
theorem addTagged_of_room {x a : Nat} {t : Half} (room : s.eng.accusations.length < 48 ∨ ∃ e ∈ s.eng.accusations, isTagged x a t e = true)
    (k : AccKind) : s.addTagged c x a k t = { s with eng := s.eng.withTagged x a k t s.evidenceEpoch } := by
  unfold State.addTagged Engine.withTagged
  by_cases slots : (isSlot x && isSlot a) = true
  · by_cases held : s.eng.accusations.any (isTagged x a t) = true
    · simp [slots, held]
    · have free := room.resolve_right fun h => held (List.any_eq_true.2 h)
      simp only [slots, held, if_true, Bool.not_false, Bool.and_self, Bool.false_eq_true, if_false]
      exact appendEntry_of_room free ..
  · simp [slots]

/-- With room in the list the two hand-offs of an observation touch different blocks. -/
theorem observe_of_room (running : s.ctl.station = .running) {a : Nat} {t : Half}
    (room : s.eng.accusations.length < 48 ∨ ∃ e ∈ s.eng.accusations, isTagged s.ownSlot a t e = true) (k : AccKind) :
    s.observe c a k t = { s.announce a k t with eng := (s.addTagged c s.ownSlot a k t).eng, choices := s.choices + 1 } := by
  have added := addTagged_of_room (c := c) room k
  have announced := announce_congr s.eng (s.choices + 1) a k t s
  have later : (s.announce a k t).evidenceEpoch = s.evidenceEpoch := (announce_frame s a k t).evidenceEpoch
  have first : ({ s.announce a k t with eng := s.eng, choices := s.choices + 1 } : State).addTagged c s.ownSlot a k t =
      { s.announce a k t with eng := s.eng.withTagged s.ownSlot a k t s.evidenceEpoch, choices := s.choices + 1 } := by
    rw [addTagged_of_room (s := { s.announce a k t with eng := s.eng, choices := s.choices + 1 }) room k, ← later]
    rfl
  have second : ({ s with choices := s.choices + 1 } : State).addTagged c s.ownSlot a k t =
      { s with eng := s.eng.withTagged s.ownSlot a k t s.evidenceEpoch, choices := s.choices + 1 } :=
    addTagged_of_room (s := { s with choices := s.choices + 1 }) room k
  rw [added, State.observe, running]
  dsimp only
  split
  · exact (congrArg (State.addTagged c s.ownSlot a k t) announced).trans first
  · exact (congrArg (State.announce · a k t) second).trans (announce_congr _ _ a k t s)

/-- Settles O11: the two orders, and their one outcome where the list has room. -/
theorem observationIsHandedOn : Obligations.ObservationIsHandedOn := by
  intro s c a k t
  refine ⟨fun h => by rw [State.observe, h], fun running quarantined => ?_, fun running => ⟨Config.announceFirst s.choices, ?_⟩,
    fun running room => observe_of_room running room k⟩
  · unfold State.observe
    cases h : s.ctl.station with
    | running => exact absurd h running
    | quarantined => exact absurd h quarantined
    | unconfigured => rfl
    | enrolling => rfl
    | mute r => rfl
  · rw [State.observe, running]; rfl

/-! ### Items of evidence -/

theorem correlated_eq (c : ConfigRecord) (w a : Nat) :
    correlated c w a = decide (w ≠ a ∧ zoneKey c.zoneMask w = zoneKey c.zoneMask a) := (Bool.decide_and _ _).symm

/-- A weight lies from 1 to 255 (Table 9-2). -/
theorem weightOf_bounds (h : ConfigSound c) (k : EvidenceKind) : 1 ≤ weightOf c k ∧ weightOf c k ≤ 255 := by
  obtain ⟨-, -, -, -, miss, corrupt, rebut, babble, -⟩ := h
  cases k
  · exact miss
  · exact corrupt
  · exact rebut
  · exact babble

/-- Settles O14: the product by its factors, and the update of the one record. -/
theorem itemOfEvidenceIsScored : Obligations.ItemOfEvidenceIsScored := by
  intro s c w a k n _ weight halved doubled epoch item
  have weight_eq : weightOf c k = weight := by simp only [weight]; cases k <;> rfl
  have halved_eq : (if correlated c w a then max 1 (weightOf c k / 2) else weightOf c k) = halved := by
    simp only [halved, correlated_eq, weight_eq, decide_eq_true_eq]
    split_ifs <;> omega
  have item_eq : product c w a k n (s.record a).probation = item := by
    simp only [product, halved_eq, item, doubled, Nat.mul_comm 2]
  refine ⟨fun hw hw' ha ha' => ?_, fun outside => ?_, fun sound one many => ?_, fun apart same probation odd_from odd => ?_⟩
  · rw [State.applyItem, (isSlot_iff w).2 ⟨hw, hw'⟩, (isSlot_iff a).2 ⟨ha, ha'⟩, appliedRecord, item_eq,
      show min 4095 ((s.record a).score + item) = if 4095 < (s.record a).score + item then 4095 else (s.record a).score + item by
        split_ifs <;> omega]
    rfl
  · rw [State.applyItem, if_neg]
    simpa [isSlot_iff, and_assoc] using outside
  · have bounds := weightOf_bounds sound k
    rw [weight_eq] at bounds
    have doubled_bounds : 1 ≤ doubled ∧ doubled ≤ 510 := by
      simp only [doubled, halved]; split_ifs <;> omega
    exact ⟨Nat.mul_pos doubled_bounds.1 one, (Nat.mul_le_mul doubled_bounds.2 many).trans (by norm_num)⟩
  · simp only [doubled, halved, apart, same, probation, ne_eq, not_false_eq_true, and_self, if_true]
    split_ifs <;> omega

/-! ### Standings -/

theorem setRecord_setRecord (s : State) (x : Nat) (q r : BoardRecord) : (s.setRecord x q).setRecord x r = s.setRecord x r := by
  simp [State.setRecord]

/-- An evaluation that gives the standing held reassesses the flag alone. -/
theorem evaluate_of_stays (h : s.eng.records.length = 24) {x : Nat} (hx : isSlot x = true)
    (new : newStanding c (s.record x).standing (s.record x).score (independentZones c x (s.record x).witnesses) = (s.record x).standing) :
    s.evaluate c x = s.setRecord x { s.record x with
      quorumShort := shortOfQuorum c (s.record x).score (independentZones c x (s.record x).witnesses) } := by
  have still : ∀ b, (s.setRecord x { s.record x with quorumShort := b }).changeStanding x (s.record x).standing .evidence =
      s.setRecord x { s.record x with quorumShort := b } := fun b => by
    unfold State.changeStanding
    rw [State.record_setRecord_same s h x hx]
    exact if_pos rfl
  unfold State.evaluate
  simp only [new, still]
  exact if_neg fun ⟨_, e, ne⟩ => ne e

/-- An evaluation that gives another standing changes it with cause EVIDENCE, and hands over the own trigger. -/
theorem evaluate_of_changes (h : s.eng.records.length = 24) {x : Nat} (hx : isSlot x = true) {new : Standing}
    (given : newStanding c (s.record x).standing (s.record x).score (independentZones c x (s.record x).witnesses) = new)
    (other : (s.record x).standing ≠ new) :
    s.evaluate c x =
      let t := (s.setRecord x { s.record x with
        quorumShort := shortOfQuorum c (s.record x).score (independentZones c x (s.record x).witnesses), standing := new,
        cause := some .evidence }).post (.standing x (s.record x).standing new .evidence)
      if x = s.ownSlot ∧ new = .condemned then t.takeTrigger c .evidence (independentZones c x (s.record x).witnesses) else t := by
  have changed : ∀ b, (s.setRecord x { s.record x with quorumShort := b }).changeStanding x new .evidence =
      (s.setRecord x { s.record x with quorumShort := b, standing := new, cause := some .evidence }).post
        (.standing x (s.record x).standing new .evidence) := fun b => by
    unfold State.changeStanding
    rw [State.record_setRecord_same s h x hx]
    dsimp only
    rw [if_neg other, setRecord_setRecord]
  unfold State.evaluate
  simp only [given, changed]
  by_cases own : x = s.ownSlot ∧ new = .condemned
  · rw [if_pos ⟨own.1, own.2, own.2 ▸ other⟩, if_pos own]
  · rw [if_neg fun e => own ⟨e.1, e.2.1⟩, if_neg own]

/-- Settles O18: Table 3-2 by the standing held and the thresholds passed. -/
theorem standingIsEvaluated : Obligations.StandingIsEvaluated := by
  intro s c x tables low high r z flag stays becomes quorate
  have hx := (isSlot_iff x).2 ⟨low, high⟩
  have flag_eq : shortOfQuorum c r.score z = flag := (Bool.decide_and _ _).symm
  have keeps (new : newStanding c r.standing r.score z = r.standing) : stays := by
    simp only [stays, ← flag_eq]
    exact evaluate_of_stays tables.1 hx new
  have changes (new : Standing) (given : newStanding c r.standing r.score z = new) (other : r.standing ≠ new) : becomes new := by
    simp only [becomes, ← flag_eq]
    exact evaluate_of_changes tables.1 hx given other
  refine ⟨fun held => ?_, fun held met => ?_, fun short => ⟨fun held a => ?_, fun held a b => ?_, fun held a b => ?_, fun held a => ?_,
    fun held a b => ?_, fun held a b => ?_, fun held a => ?_, fun held a b => ?_, fun held a b => ?_⟩⟩
  · exact keeps (by rw [held]; rfl)
  · refine changes _ ?_ held
    cases h : r.standing
    · simp [newStanding, met.1, met.2]
    · simp [newStanding, met.1, met.2]
    · simp [newStanding, met.1, met.2]
    · exact absurd h held
  · exact changes _ (by rw [held]; exact (if_neg short).trans (if_pos a)) (by simp [held])
  · exact changes _ (by rw [held]; exact (if_neg short).trans ((if_neg (by omega)).trans (if_pos a))) (by simp [held])
  · exact keeps (by rw [held]; exact (if_neg short).trans ((if_neg (by omega)).trans (if_neg (by omega))))
  · exact changes _ (by rw [held]; exact (if_neg short).trans (if_pos a)) (by simp [held])
  · exact changes _ (by rw [held]; exact (if_neg short).trans ((if_neg (by omega)).trans (if_pos a))) (by simp [held])
  · exact keeps (by rw [held]; exact (if_neg short).trans ((if_neg (by omega)).trans (if_neg (by omega))))
  · exact changes _ (by rw [held]; exact (if_neg short).trans (if_pos a)) (by simp [held])
  · exact changes _ (by rw [held]; exact (if_neg short).trans ((if_neg (by omega)).trans (if_pos b))) (by simp [held])
  · exact keeps (by rw [held]; exact (if_neg short).trans ((if_neg (by omega)).trans (if_neg (by omega))))

/-! ### The quarantine trigger and the peer quorum -/

theorem quarantineNote_eq (n : TxNote) : quarantineNote n =
    if n.content.kind = .accuse ∨ n.content.kind = .rebut then
      if n.state = .underWay then some { n with noRetry := true } else none
    else some n := by
  simp only [quarantineNote, TxNote.budgeted, Bool.or_eq_true, decide_eq_true_eq]

/-- Settles O19: the trigger by the station's state. -/
theorem quarantineTriggerIsTaken : Obligations.QuarantineTriggerIsTaken := by
  intro s c k z
  refine ⟨fun running => ?_, fun enrolling => by rw [State.takeTrigger, enrolling], fun quarantined => by rw [State.takeTrigger, quarantined],
    fun r muted => ⟨fun enforce clear => ?_, fun inert => ?_⟩⟩
  · rw [State.takeTrigger, running, State.enterQuarantined, funext quarantineNote_eq]
    simp only [State.post_xmt]
  · rw [State.takeTrigger, muted]
    exact if_pos ⟨enforce, clear⟩
  · rw [State.takeTrigger, muted]
    refine if_neg fun ⟨enforce, clear⟩ => ?_
    obtain report | set := inert
    · rw [report] at enforce; cases enforce
    · rw [set] at clear; cases clear

theorem countsForQuorum_iff (s : State) (x : Nat) : s.countsForQuorum x = true ↔ x ≠ s.ownSlot ∧ (s.entry x).condemnsMe = true ∧
    (s.entry x).presence = .present ∧ (s.entry x).matched = true ∧ (s.entry x).quarantined = false ∧
      (s.record x).standing ≠ .condemned := by
  simp [State.countsForQuorum, State.tainted, and_assoc]

theorem mem_quorumKeys (c : ConfigRecord) (s : State) (key : Nat) : key ∈ s.quorumKeys c ↔
    key ≠ zoneKey c.zoneMask s.ownSlot ∧ ∃ x, (isSlot x = true ∧ s.countsForQuorum x = true) ∧ zoneKey c.zoneMask x = key := by
  simp only [State.quorumKeys, List.mem_dedup, List.mem_filter, List.mem_map, decide_eq_true_eq, mem_slots]
  exact and_comm

/-- Settles O20: the keys counted are those of the peers that count. -/
theorem peerQuorumIsEvaluated : Obligations.PeerQuorumIsEvaluated := by
  intro s c tables low high counts keys meant r
  have same : keys = (s.quorumKeys c).toFinset := by
    ext key
    rw [meant, List.mem_toFinset, mem_quorumKeys]
    simp only [counts, countsForQuorum_iff, isSlot_iff, and_assoc]
  have card : (s.quorumKeys c).length = keys.card := by
    exact same ▸ (List.toFinset_card_of_nodup (List.nodup_dedup _)).symm
  unfold State.peerQuorum
  rw [card]
  refine ⟨fun met held => ?_, fun unmet => ?_⟩
  · rw [if_pos ⟨met, held⟩, State.changeStanding, if_neg held]
  · rw [if_neg fun ⟨met, held⟩ => unmet.elim (fun below => by omega) held]

end Sys2Proof.Machine
end

section
/-! The clock, the clock fault and the boundary work of the tracker, the transmitter and the Station Controller as the statements give them
(chapters 1, 7 and 9). -/

namespace Sys2Proof.Machine

open Sys2Proof.Safety

variable {s : State} {c : ConfigRecord}

/-! ### The clock -/

theorem ofNat_succ_mod (x : Half) : BitVec.ofNat 16 ((x.toNat + 1) % 65536) = x + 1 :=
  BitVec.eq_of_toNat_eq (by simp [BitVec.toNat_add])

theorem toNat_succ (x : Half) : (x + 1).toNat = (x.toNat + 1) % 65536 := by simp [BitVec.toNat_add]

theorem ticksAt_eq (c : ConfigRecord) (count : Half) (k : Nat) :
    ticksAt c count k = decide (c.timeouts.getD k 0 ≠ 0 ∧ count.toNat % 2 ^ (c.timeouts.getD k 0 - 1) = 0) := (Bool.decide_and _ _).symm

/-- Settles O22: the tick, the class ticks and the boundary by what is due. -/
theorem ticksAndBoundariesFall : Obligations.TicksAndBoundariesFall := by
  intro s
  refine ⟨fun hc => by simp only [exec, execMsTick, hc], fun c hc quiet due => ?_, fun cls quiet => ⟨fun fallen => ?_, fun fallen => ?_⟩,
    fun quiet => ⟨fun fallen => ?_, fun fallen => ?_⟩⟩
  · simp only [exec, execMsTick, hc, catchUp_of_due_none quiet due, State.advanceCount, due, ofNat_succ_mod, ticksAt_eq, toNat_succ,
      epochLength]
  · rw [exec, execClassTick, settle_of_quiet s quiet, if_pos fallen]; rfl
  · rw [exec, execClassTick, settle_of_quiet s quiet, if_neg fallen]
  · rw [exec, execEpochBoundary, settle_of_quiet s quiet, if_pos fallen, ofNat_succ_mod, ← quiet.2]; rfl
  · rw [exec, execEpochBoundary, settle_of_quiet s quiet, if_neg (by simp [fallen])]

/-! ### The clock fault -/

/-- Entry to MUTE ends with its first three steps where no trigger was held over for a CONDEMNED own record. -/
theorem enterMute_of_no_trigger (d : MuteDetail)
    (h : s.ctl.station = .enrolling → s.ctl.held = none ∨ s.ownCondemned = false) : s.enterMute c d = s.muted d := by
  obtain e | ⟨t, enrolling, held, condemned, _⟩ := enterMute_cases c d s
  · exact e
  · obtain none | sound := h enrolling
    · rw [none] at held; cases held
    · rw [sound] at condemned; cases condemned

theorem enterMute_of_trigger {h : HeldTrigger} (enrolling : s.ctl.station = .enrolling) (held : s.ctl.held = some h)
    (condemned : s.ownCondemned = true) (d : MuteDetail) : s.enterMute c d = (s.muted d).takeTrigger c h.kind h.zones := by
  have muted : (s.muted d).ctl.station = .mute d.reason := by simp [State.muted]
  rw [State.takeTrigger, muted]
  simp only [State.enterMute, enrolling, held, condemned, if_true, State.muted]

theorem ownCondemned_iff (s : State) : s.ownCondemned = true ↔ isSlot s.ownSlot = true ∧ (s.record s.ownSlot).standing = .condemned := by
  simp [State.ownCondemned]

theorem ownCondemned_eq_false (h : (s.record s.ownSlot).standing ≠ .condemned) : s.ownCondemned = false :=
  Bool.eq_false_iff.2 fun e => h ((ownCondemned_iff s).1 e).2

/-- Settles O24: the fault by the station's state. -/
theorem clockFaultMutesTheStation : Obligations.ClockFaultMutesTheStation := by
  intro s c quiet hc
  have fault : exec .clockFault s = .next (if s.ctl.monitorArmed ∧ s.ctl.tickSource = .clkin then
      ({ s with ctl := { s.ctl with tickSource := .rc } } : State).faultState c else s) := by
    simp only [exec, execClockFault, settle_of_quiet s quiet, hc]
  rw [fault]
  refine ⟨fun h => ?_, fun armed clkin => ?_⟩
  · rw [if_neg]
    rintro ⟨armed, clkin⟩
    obtain h | h := h
    · rw [h] at armed; cases armed
    · rw [h] at clkin; cases clkin
  rw [if_pos ⟨armed, clkin⟩]
  intro muted
  let moved : State := { s with ctl := { s.ctl with tickSource := .rc } }
  have live (station : s.ctl.station = .enrolling ∨ s.ctl.station = .running ∨ s.ctl.station = .quarantined) :
      moved.faultState c = moved.enterMute c .clockFault := by
    unfold State.faultState
    obtain h | h | h := station <;> simp only [moved, h]
  have untriggered (station : s.ctl.station = .enrolling → s.ctl.held = none ∨ moved.ownCondemned = false) :
      moved.enterMute c .clockFault = muted := enterMute_of_no_trigger (s := moved) .clockFault station
  refine ⟨fun h => ?_, fun h none => ?_, fun t h held low high condemned => ?_, fun r h => ?_⟩
  · rw [live (.inr h), untriggered fun e => by rw [e] at h; simp at h]
  · rw [live (.inl h), untriggered fun _ => none.imp_right (ownCondemned_eq_false (s := moved))]
  · rw [live (.inl h), enterMute_of_trigger (s := moved) h held ((ownCondemned_iff moved).2 ⟨(isSlot_iff _).2 ⟨low, high⟩, condemned⟩)]
    rfl
  · simp only [State.faultState, h]

/-! ### The tracker's and the transmitter's boundary work -/

theorem poolFree_beacon_iff (b : List TxNote) : poolFree b .beacon = true ↔ ∀ n ∈ b, n.pool ≠ .beacon := by
  simp [poolFree, poolUse, poolSize, List.filter_eq_nil_iff]

/-- A BEACON or ENROL request takes the beacon slot where it is free. -/
theorem enqueue_of_beacon_pool {n : Content} (kind : n.kind = .beacon ∨ n.kind = .enrol) (s : State) : s.enqueue n =
    s.setBuffer (if ∀ m ∈ s.xmt.buffer, m.pool ≠ .beacon then s.xmt.buffer ++ [newNote n .beacon] else s.xmt.buffer) := by
  have place : placeFor s.xmt.buffer n.kind = if poolFree s.xmt.buffer .beacon then some .beacon else none := by
    obtain h | h := kind <;> rw [h] <;> rfl
  unfold State.enqueue
  rw [place]
  by_cases free : ∀ m ∈ s.xmt.buffer, m.pool ≠ .beacon
  · rw [if_pos ((poolFree_beacon_iff _).2 free), if_pos free]
  · rw [if_neg fun h => free ((poolFree_beacon_iff _).1 h), if_neg free]; rfl

theorem queueBeacon_eq (s : State) : s.queueBeacon =
    s.setBuffer (if ∀ m ∈ s.xmt.buffer, m.pool ≠ .beacon then s.xmt.buffer ++ [newNote (.beacon none) .beacon] else s.xmt.buffer) :=
  enqueue_of_beacon_pool (.inl rfl) s

theorem queueEnrol_eq (s : State) : s.queueEnrol = s.setBuffer (if ∀ m ∈ s.xmt.buffer, m.pool ≠ .beacon then
    s.xmt.buffer ++ [newNote (.enrol s.ctl.serial s.ctl.role (s.ctl.digest.getD 0)) .beacon] else s.xmt.buffer) :=
  enqueue_of_beacon_pool (.inr rfl) s

/-- Settles O29: each work where it is due. -/
theorem trackerAndTransmitterBoundaryWork : Obligations.TrackerAndTransmitterBoundaryWork := by
  intro s c quiet hc free beacon refilled sends
  have blind : exec .blindPeriodEnd s = .next s.blindWork := by rw [exec, execBlindPeriodEnd, settle_of_quiet s quiet]
  have transmitter : exec .noteTransmitterBoundaryWork s = .next (s.transmitterWork c) := by
    simp only [exec, execNoteTransmitterBoundaryWork, settle_of_quiet s quiet, hc]
  rw [blind, transmitter]
  refine ⟨fun due => by rw [State.blindWork, if_pos due], fun idle => by rw [State.blindWork, if_neg (by simp [idle])],
    fun due sending room => ?_, fun due unsent => ?_, fun idle => by rw [State.transmitterWork, if_neg (by simp [idle])]⟩
  · rw [State.transmitterWork, if_pos due]
    dsimp only
    rw [if_pos sending, queueBeacon_eq, if_pos room]
    rfl
  · rw [State.transmitterWork, if_pos due]
    dsimp only
    by_cases sending : sends
    · rw [if_pos sending, queueBeacon_eq, if_neg fun room => unsent ⟨sending, room⟩]
      rfl
    · rw [if_neg sending]

/-! ### Enrolment -/

theorem exec_enrolmentStep (quiet : Quiet s) (hc : s.ctl.config = some c) : exec .enrolmentStep s = .next (s.enrolmentWork c) := by
  simp only [exec, execEnrolmentStep, settle_of_quiet s quiet, hc]

theorem exec_endOfEnrolment (quiet : Quiet s) (hc : s.ctl.config = some c) :
    exec .endOfEnrolment s = .next (if 3 ≤ s.ctl.enrolCount then s.enrolmentWork c else s) := by
  simp only [exec, execEndOfEnrolment, settle_of_quiet s quiet, hc]

/-- Settles O30: the step where it is due, with the ENROL where its slot is free. -/
theorem enrolmentStepAsksForAnEnrol : Obligations.EnrolmentStepAsksForAnEnrol := by
  intro s c d quiet hc hd free enrol advanced
  rw [exec_enrolmentStep quiet hc, exec_endOfEnrolment quiet hc]
  refine ⟨fun due enrolling early => ?_, fun elsewhere => by rw [State.enrolmentWork, if_neg fun h => elsewhere h.2], fun idle => ?_⟩
  · rw [if_neg (by omega), State.enrolmentWork, if_pos ⟨due, enrolling⟩]
    dsimp only
    have digest : s.ctl.digest.getD 0 = d := congrArg (·.getD 0) hd
    rw [if_pos (by omega), queueEnrol_eq, digest]
    exact ⟨fun room => by rw [if_pos room]; rfl, fun taken => by rw [if_neg taken]; rfl, rfl⟩
  · have same : s.enrolmentWork c = s := by
      rw [State.enrolmentWork, if_neg (by simp [idle])]
      exact congrArg (fun b => ({ s with due := { s.due with enrolment := b } } : State)) idle.symm
    rw [same, ite_self]
    exact ⟨rfl, rfl⟩

theorem leaveEnrolNote_eq (n : TxNote) : leaveEnrolNote n =
    if n.content.kind = .enrol then (if n.state = .underWay then some { n with noRetry := true } else none) else some n := rfl

theorem filterMap_quarantineNote_of_enrol {l : List TxNote} (h : ∀ n ∈ l, n.content.kind = .enrol) : l.filterMap quarantineNote = l := by
  refine (List.filterMap_congr fun n hn => ?_).trans (List.filterMap_some ..)
  rw [quarantineNote_eq, if_neg (by simp [h n hn])]

theorem peerCount_eq (s : State) (matched : Bool) : s.peerCount matched = ((List.range' 1 24).filter fun x =>
    decide (x ≠ s.ownSlot ∧ (s.entry x).presence = .present ∧ (s.entry x).matched = matched)).length := by
  unfold State.peerCount slots
  congr 1
  refine List.filter_congr fun x _ => ?_
  cases matched <;> simp [Bool.and_assoc]

theorem causeTrigger_eq (k : Option Cause) : causeTrigger k = if k = some .peerQuorum then .peerQuorum else .evidence := by
  rcases k with _ | _ | _ | _ | _ | _ <;> rfl

/-- Settles O31: the decision by the counts, the own record and the latch. -/
theorem endOfEnrolmentDecides : Obligations.EndOfEnrolmentDecides := by
  intro s c quiet hc due enrolling count tables low high peers ended kept beacon started quarantined minority condemned
  have own : isSlot s.ownSlot = true := (isSlot_iff _).2 ⟨low, high⟩
  let last : State := { s with ctl := { s.ctl with enrolCount := 4 }, due := { s.due with enrolment := false } }
  have work : s.enrolmentWork c = last.endEnrolment c := by
    rw [State.enrolmentWork, if_pos ⟨due, enrolling⟩]
    simp only [count, last]
    rfl
  have step : exec .endOfEnrolment s = .next (last.endEnrolment c) := by
    rw [exec_endOfEnrolment quiet hc, if_pos (by omega), work]
  have peers_eq (m : Bool) : last.peerCount m = peers m := peerCount_eq last m
  have condemned_iff : last.ownCondemned = true ↔ condemned := by
    rw [ownCondemned_iff]; exact and_iff_right own
  have muted : last.muted (.configMinority (peers false) (peers true)) = minority := by
    simp only [State.muted, last, enrolling]; rfl
  refine ⟨by rw [step, exec_enrolmentStep quiet hc, work], fun few unheld => ?_, fun h few held bad => ?_, fun enrols enough => ?_⟩
  · rw [step, State.endEnrolment]
    dsimp only
    rw [peers_eq, peers_eq, if_pos few, enterMute_of_no_trigger, muted]
    exact fun _ => unheld.imp_right fun h => Bool.eq_false_iff.2 fun e => h (condemned_iff.1 e)
  · rw [step, State.endEnrolment]
    dsimp only
    rw [peers_eq, peers_eq, if_pos few, enterMute_of_trigger (s := last) enrolling held (condemned_iff.2 bad), muted]
  · have decide_ : last.endEnrolment c =
        if last.ownCondemned then
          (ended.enterQuarantined c (s.ctl.held.getD { kind := causeTrigger (s.record s.ownSlot).cause, zones := 0 }).kind
            (s.ctl.held.getD { kind := causeTrigger (s.record s.ownSlot).cause, zones := 0 }).zones).leaveEnrolling
        else if s.ctl.latch then (ended.enterQuarantined c .restored 0).leaveEnrolling
        else ({ ended with ctl := { ended.ctl with station := .running } } : State).leaveEnrolling := by
      rw [State.endEnrolment]
      dsimp only
      rw [peers_eq, peers_eq, if_neg (by omega)]
      rfl
    have leaves (u : State) (buffer : u.xmt.buffer = s.xmt.buffer) : u.leaveEnrolling = started u := by
      simp only [State.leaveEnrolling, queueBeacon_eq, buffer]; rfl
    have quarantines (k : Trigger) (z : Nat) : (ended.enterQuarantined c k z).leaveEnrolling = started (quarantined k z) := by
      have buffer : ended.enterQuarantined c k z = quarantined k z := by
        change (quarantined k z).setBuffer ((quarantined k z).xmt.buffer.filterMap quarantineNote) = quarantined k z
        rw [filterMap_quarantineNote_of_enrol (by simpa [quarantined, ended] using enrols), setBuffer_self]
      rw [buffer]
      exact leaves _ (by simp [quarantined, ended])
    rw [step, decide_]
    refine ⟨fun h bad held => ?_, fun bad held => ?_, fun good latch => ?_, fun good latch => ?_⟩
    · rw [if_pos (condemned_iff.2 bad), held, quarantines]; rfl
    · rw [if_pos (condemned_iff.2 bad), held, quarantines, ← causeTrigger_eq]; rfl
    · rw [if_neg fun e => good (condemned_iff.1 e), if_pos latch, quarantines]
    · rw [if_neg fun e => good (condemned_iff.1 e), if_neg (by simp [latch]), leaves { ended with ctl := { ended.ctl with station := .running } } rfl]

end Sys2Proof.Machine
end

section
/-! The beginning and the ends of an attempt as the statements give them (chapter 6). -/

namespace Sys2Proof.Machine

open Sys2Proof.Safety

variable {s : State} {c : ConfigRecord} {before after : List TxNote} {n : TxNote}

/-! ### The choice of a note -/

theorem permitted_iff (st : Station) (k : NoteKind) : permitted st k = true ↔
    (st = .enrolling ∧ k = .enrol ∨ st = .running ∧ k ≠ .enrol ∨ st = .quarantined ∧ k = .beacon) := by
  cases st <;> simp [permitted]

theorem budgeted_iff (n : TxNote) : n.budgeted = true ↔ n.content.kind = .accuse ∨ n.content.kind = .rebut := by simp [TxNote.budgeted]

theorem mayBegin_iff (s : State) : s.mayBegin = true ↔
    s.ctl.inReset = false ∧ 12 ≤ s.rcv.idleCount ∧ ∀ n ∈ s.xmt.buffer, n.state ≠ .underWay := by
  simp [State.mayBegin, State.sending, and_assoc]

theorem noRetryHead_iff (s : State) : s.xmt.buffer.findIdx? (fun n => decide (n.state = .retryHead)) = none ↔
    ∀ n ∈ s.xmt.buffer, n.state ≠ .retryHead := by simp [List.findIdx?_eq_none_iff]

theorem begin_of_retryHead (ready : s.mayBegin = true) (split : s.xmt.buffer = before ++ n :: after) (retry : n.state = .retryHead)
    (first : ∀ m ∈ before, m.state ≠ .retryHead) :
    s.begin = if permitted s.ctl.station n.content.kind = true then s.retryAttempt before.length n else s := by
  have head : s.xmt.buffer.findIdx? (fun n => decide (n.state = .retryHead)) = some before.length := by
    rw [split]; exact findIdx?_append_cons (fun m hm => decide_eq_false (first m hm)) (decide_eq_true retry)
  have at_head : s.xmt.buffer[before.length]? = some n := by rw [split, getElem?_append_cons_length]
  have next : s.nextNote = if permitted s.ctl.station n.content.kind = true then some before.length else none := by
    simp only [State.nextNote, head, at_head, Option.any_some]
  rw [State.begin, if_pos ready, next]
  by_cases allowed : permitted s.ctl.station n.content.kind = true
  · rw [if_pos allowed, if_pos allowed]
    simp only [at_head, retry, if_true]
  · rw [if_neg allowed, if_neg allowed]

theorem nextNote_of_no_candidate (waits : ∀ n ∈ s.xmt.buffer, n.state ≠ .retryHead)
    (barred : ∀ u, ∀ n ∈ s.xmt.buffer, s.candidate u n = false) : s.nextNote = none := by
  have absent (u : BitVec 2) : s.xmt.buffer.findIdx? (s.candidate u) = none := List.findIdx?_eq_none_iff.2 (barred u)
  simp only [State.nextNote, (noRetryHead_iff s).2 waits, absent]

/-- The candidate of the lowest urgency value that is first in queue order is the next note. -/
theorem nextNote_of_first (waits : ∀ n ∈ s.xmt.buffer, n.state ≠ .retryHead) (split : s.xmt.buffer = before ++ n :: after)
    (fits : s.candidate (urgencyOf n.content.kind) n = true)
    (first : ∀ m ∈ before, ∀ u, s.candidate u m = true → (urgencyOf n.content.kind).toNat < u.toNat)
    (least : ∀ m ∈ after, ∀ u, s.candidate u m = true → (urgencyOf n.content.kind).toNat ≤ u.toNat) :
    s.nextNote = some before.length := by
  have absent (u : BitVec 2) (less : u.toNat < (urgencyOf n.content.kind).toNat) : s.xmt.buffer.findIdx? (s.candidate u) = none := by
    refine List.findIdx?_eq_none_iff.2 fun m hm => Bool.eq_false_iff.2 fun h => ?_
    rw [split, List.mem_append, List.mem_cons] at hm
    obtain early | rfl | late := hm
    · have := first m early u h; omega
    · exact absurd less (by rw [(candidate_eq_true.1 h).2.1]; omega)
    · have := least m late u h; omega
  have present : s.xmt.buffer.findIdx? (s.candidate (urgencyOf n.content.kind)) = some before.length := by
    rw [split]
    exact findIdx?_append_cons (fun m hm => Bool.eq_false_iff.2 fun h => Nat.lt_irrefl _ (first m hm _ h)) fits
  have unretried := (noRetryHead_iff s).2 waits
  cases kind : n.content.kind <;> rw [kind] at absent present
  · simp only [State.nextNote, unretried, show s.xmt.buffer.findIdx? (s.candidate 0) = _ from present]
  · simp only [State.nextNote, unretried, show s.xmt.buffer.findIdx? (s.candidate 0) = _ from present]
  · simp only [State.nextNote, unretried, absent 0 (by decide), absent 1 (by decide),
      show s.xmt.buffer.findIdx? (s.candidate 2) = _ from present]
  · simp only [State.nextNote, unretried, absent 0 (by decide), show s.xmt.buffer.findIdx? (s.candidate 1) = _ from present]

theorem begin_of_next (ready : s.mayBegin = true) (split : s.xmt.buffer = before ++ n :: after) (next : s.nextNote = some before.length)
    (waiting : n.state = .waiting) : s.begin = s.firstAttempt before.length n := by
  have here : s.xmt.buffer[before.length]? = some n := by rw [split, getElem?_append_cons_length]
  rw [State.begin, if_pos ready]
  simp only [next, here, waiting, reduceCtorEq, if_false]

theorem fenceMap_eq (s : State) : s.fenceMap =
    (List.range' 1 24).filter fun x => decide (x ≠ s.ownSlot ∧ (s.record x).standing = .condemned) :=
  List.filter_congr fun _ _ => (Bool.decide_and _ _).symm

theorem exec_beginAttempt (quiet : Quiet s) : exec .beginAttempt s = .next s.begin := by
  rw [exec, execBeginAttempt, settle_of_quiet s quiet]

theorem noteOnLine_of_underWay (split : s.xmt.buffer = before ++ n :: after) (underWay : n.state = .underWay)
    (first : ∀ m ∈ before, m.state ≠ .underWay) : s.noteOnLine = (s.wireNote n).map noteBytes := by
  rw [State.noteOnLine, split, find?_append_cons (fun m hm => decide_eq_false (first m hm)) (decide_eq_true underWay)]; rfl

/-- Settles O32: the retry head or the first of the most urgent candidates, and the bytes on the line. -/
theorem attemptBegins : Obligations.AttemptBegins := by
  intro s quiet ready permits budgeted candidate urgency fixed
  have may : s.mayBegin = true ↔ ready := mayBegin_iff s
  have permits_iff (k : NoteKind) : permitted s.ctl.station k = true ↔ permits k := permitted_iff _ k
  have candidate_iff (u : BitVec 2) (m : TxNote) : s.candidate u m = true ↔ urgencyOf m.content.kind = u ∧ candidate m := by
    rw [candidate_eq_true, permits_iff, budgeted_iff]
    exact and_left_comm
  have urgency_eq (m : TxNote) : urgency m = (urgencyOf m.content.kind).toNat := by
    simp only [urgency]; cases m.content.kind <;> rfl
  rw [exec_beginAttempt quiet]
  refine ⟨fun busy => ?_, fun before after n isReady split retry first => ⟨fun allowed => ?_, fun forbidden => ?_⟩, fun isReady waits none => ?_,
    fun before after n isReady waits split fits first least => ?_, fun released => ?_, fun before after n seq split underWay first hseq => ?_⟩
  · rw [State.begin, if_neg fun h => busy (may.1 h)]
  · rw [begin_of_retryHead (may.2 isReady) split retry first, if_pos ((permits_iff _).2 allowed), State.retryAttempt, split,
      set_append_cons_length]
  · rw [begin_of_retryHead (may.2 isReady) split retry first, if_neg fun h => forbidden ((permits_iff _).1 h)]
  · have next := nextNote_of_no_candidate waits fun u n hn => Bool.eq_false_iff.2 fun h => none n hn ((candidate_iff u n).1 h).2
    simp only [State.begin, next, ite_self]
  · have next := nextNote_of_first waits split ((candidate_iff _ n).2 ⟨rfl, fits⟩)
      (fun m hm u h => by
        obtain ⟨rfl, other⟩ := (candidate_iff u m).1 h
        rw [← urgency_eq, ← urgency_eq]; exact first m hm other)
      (fun m hm u h => by
        obtain ⟨rfl, other⟩ := (candidate_iff u m).1 h
        rw [← urgency_eq, ← urgency_eq]; exact least m hm other)
    have content : s.fixedContent n.content = fixed n := by
      simp only [fixed, ← fenceMap_eq]; cases n.content <;> rfl
    rw [begin_of_next (may.2 isReady) split next fits.1, State.firstAttempt, split, set_append_cons_length, content]
    simp only [budgeted_iff, budgeted]
  · have none : s.xmt.buffer.find? (fun n => decide (n.state = .underWay)) = none := by simpa using released
    rw [State.noteOnLine, none]; rfl
  · have sent := noteOnLine_of_underWay split underWay first
    refine ⟨fun serial role digest content => ?_, fun b content => ?_, fun accused k tags surplus content => ?_,
      fun accuser t k content => ?_⟩ <;> rw [sent, State.wireNote, hseq, content] <;> rfl

/-! ### The idle line and the ends of an attempt -/

theorem sending_iff (s : State) : s.sending = true ↔ ∃ n ∈ s.xmt.buffer, n.state = .underWay := by simp [State.sending]

theorem underWayAt_of_split (split : s.xmt.buffer = before ++ n :: after) (underWay : n.state = .underWay)
    (first : ∀ m ∈ before, m.state ≠ .underWay) : s.underWayAt = some before.length := by
  rw [State.underWayAt, split]
  exact findIdx?_append_cons (fun m hm => decide_eq_false (first m hm)) (decide_eq_true underWay)

theorem underWayAt_of_not_sending (h : ¬ ∃ n ∈ s.xmt.buffer, n.state = .underWay) : s.underWayAt = none :=
  List.findIdx?_eq_none_iff.2 fun n hn => decide_eq_false fun e => h ⟨n, hn, e⟩

theorem goIdle_eq (s : State) : s.goIdle =
    if s.ctl.inReset = false ∧ s.ctl.station ≠ .unconfigured ∧ ¬ ∃ n ∈ s.xmt.buffer, n.state = .underWay then s.lineIdle else s := by
  refine if_congr ?_ rfl rfl
  rw [← sending_iff]
  simp [State.listens, and_assoc]

/-- The arbitration field by its numbers. -/
theorem arbitrationField_eq (kind : NoteKind) (sender : BitVec 5) : arbitrationField kind sender =
    BitVec.ofNat 8 ((urgencyOf kind).toNat * 64 + sender.toNat * 2 + 1) := by
  revert sender; cases kind <;> decide

theorem loseArbitration_of_split (line : Byte) (split : s.xmt.buffer = before ++ n :: after) (underWay : n.state = .underWay)
    (first : ∀ m ∈ before, m.state ≠ .underWay) : s.loseArbitration line =
    if line.toNat < (arbitrationField n.content.kind s.ctl.slotStrap).toNat then
      (if n.noRetry = true then s.setBuffer (before ++ after) else s.setBuffer (before ++ { n with state := .retryHead } :: after))
    else s := by
  simp only [State.loseArbitration, underWayAt_of_split split underWay first, split, getElem?_append_cons_length, losesArbitration,
    decide_eq_true_eq, State.returnToBuffer, eraseIdx_append_cons_length, set_append_cons_length]

theorem failAttempt_of_split (split : s.xmt.buffer = before ++ n :: after) (underWay : n.state = .underWay)
    (first : ∀ m ∈ before, m.state ≠ .underWay) : s.failAttempt =
    if n.noRetry = true then s.setBuffer (before ++ after)
    else if n.attempts + 1 < 4 then s.setBuffer (before ++ { n with state := .retryHead, attempts := n.attempts + 1 } :: after)
    else ((s.setBuffer (before ++ after)).latchFlag xmitTroubleFlag).post (.xmitTrouble n.content.kind (n.seq.getD 0)) := by
  simp only [State.failAttempt, underWayAt_of_split split underWay first, split, getElem?_append_cons_length,
    eraseIdx_append_cons_length, set_append_cons_length]

theorem completeAttempt_of_split (split : s.xmt.buffer = before ++ n :: after) (underWay : n.state = .underWay)
    (first : ∀ m ∈ before, m.state ≠ .underWay) : s.completeAttempt = (s.setBuffer (before ++ after)).lineBusy := by
  simp only [State.completeAttempt, underWayAt_of_split split underWay first, split, eraseIdx_append_cons_length]

/-- Settles O33: each event by the note that is under way. -/
theorem attemptEnds : Obligations.AttemptEnds := by
  intro s quiet idle sending
  have busIdle : exec .busIdle s = .next s.goIdle := by rw [exec, execBusIdle, settle_of_quiet s quiet]
  have lost (line : Byte) : exec (.arbitrationLost line) s = .next (s.loseArbitration line) := by
    rw [exec, execArbitrationLost, settle_of_quiet s quiet]
  have failed : exec .readBackFailure s = .next s.failAttempt := by rw [exec, execReadBackFailure, settle_of_quiet s quiet]
  have complete : exec .attemptComplete s = .next s.completeAttempt := by rw [exec, execAttemptComplete, settle_of_quiet s quiet]
  simp -zeta only [busIdle, lost, failed, complete, goIdle_eq]
  refine ⟨fun out configured silent => by rw [if_pos ⟨out, configured, silent⟩]; rfl, fun deaf => ?_, fun silent line => ?_,
    fun before after n split underWay first => ?_⟩
  · rw [if_neg]
    rintro ⟨out, configured, silent⟩
    obtain h | h | h := deaf
    · rw [h] at out; cases out
    · exact configured h
    · exact silent h
  · have none := underWayAt_of_not_sending silent
    simp only [State.loseArbitration, State.failAttempt, State.completeAttempt, none, and_self]
  · intro left urgency field
    have own : arbitrationField n.content.kind s.ctl.slotStrap = field := by
      rw [arbitrationField_eq]; simp only [field, urgency]; cases n.content.kind <;> rfl
    rw [failAttempt_of_split split underWay first, completeAttempt_of_split split underWay first]
    refine ⟨fun line => ?_, fun barred => by rw [if_pos barred], fun free few => ?_, fun free many => ?_, rfl⟩
    · rw [loseArbitration_of_split line split underWay first, own]
      exact ⟨fun loses free => by rw [if_pos loses, if_neg (by simp [free])], fun loses barred => by rw [if_pos loses, if_pos barred],
        fun keeps => by rw [if_neg keeps]⟩
    · rw [if_neg (by simp [free]), if_pos (by omega)]
    · rw [if_neg (by simp [free]), if_neg (by omega)]

end Sys2Proof.Machine
end

section
/-! The bytes of a note: what each field reads back as, which bytes spell a note, and where a reception is judged (chapters 6 and 11). -/

namespace Sys2Proof.Machine

open Sys2Proof.Safety

/-! ### Fields at an offset -/

/-- A field's bytes stand at an offset of the bytes framed. -/
def StandsAt (bytes : List Byte) (i : Nat) (field : List Byte) : Prop := ∀ j < field.length, byteAt bytes (i + j) = byteAt field j

theorem append_eq_iff {m n : Nat} (high : BitVec m) (low : BitVec n) (x : BitVec (m + n)) :
    high ++ low = x ↔ high = x.extractLsb' n m ∧ low = x.extractLsb' 0 n := by
  constructor
  · rintro rfl
    exact ⟨BitVec.extractLsb'_append_eq_left.symm, BitVec.extractLsb'_append_eq_right.symm⟩
  · rintro ⟨rfl, rfl⟩
    refine BitVec.eq_of_getLsbD_eq fun i hi => ?_
    rw [BitVec.getLsbD_append]
    by_cases h : i < n
    · simp [h]
    · simp [h, show i - n < m by omega, show n + (i - n) = i by omega]

theorem byteAt_append_left {f g : List Byte} {j : Nat} (h : j < f.length) : byteAt (f ++ g) j = byteAt f j := List.getD_append _ _ _ _ h

theorem byteAt_append_right (f g : List Byte) (j : Nat) : byteAt (f ++ g) (f.length + j) = byteAt g j := by
  rw [byteAt, List.getD_append_right _ _ _ _ (by omega), Nat.add_sub_cancel_left]; rfl

section
variable {bytes : List Byte} {i : Nat}

theorem standsAt_nil : StandsAt bytes i [] := fun _ h => absurd h (Nat.not_lt_zero _)

theorem standsAt_singleton (b : Byte) : StandsAt bytes i [b] ↔ byteAt bytes i = b := by
  refine ⟨fun h => h 0 Nat.zero_lt_one, fun h j hj => ?_⟩
  obtain rfl : j = 0 := by simpa using hj
  exact h

theorem standsAt_append (f g : List Byte) : StandsAt bytes i (f ++ g) ↔ StandsAt bytes i f ∧ StandsAt bytes (i + f.length) g := by
  constructor
  · intro h
    refine ⟨fun j hj => ?_, fun j hj => ?_⟩
    · rw [h j (by rw [List.length_append]; omega), byteAt_append_left hj]
    · rw [Nat.add_assoc, h _ (by rw [List.length_append]; omega), byteAt_append_right]
  · rintro ⟨hf, hg⟩ j hj
    rw [List.length_append] at hj
    by_cases short : j < f.length
    · rw [hf j short, byteAt_append_left short]
    · obtain ⟨k, rfl⟩ := Nat.exists_eq_add_of_le (Nat.le_of_not_lt short)
      rw [← Nat.add_assoc, hg k (by omega), byteAt_append_right]

theorem standsAt_cons (b : Byte) (f : List Byte) : StandsAt bytes i (b :: f) ↔ byteAt bytes i = b ∧ StandsAt bytes (i + 1) f := by
  rw [← standsAt_singleton]; exact standsAt_append [b] f

theorem standsAt_halfBytes (h : Half) : StandsAt bytes i (halfBytes h) ↔ halfAt bytes i = h := by
  rw [halfBytes, standsAt_cons, standsAt_singleton]; exact (append_eq_iff (m := 8) (n := 8) _ _ h).symm

theorem standsAt_wordBytes (w : Word) : StandsAt bytes i (wordBytes w) ↔ wordAt bytes i = w := by
  rw [wordBytes, standsAt_append, standsAt_halfBytes, standsAt_halfBytes]; exact (append_eq_iff (m := 16) (n := 16) _ _ w).symm

/-- A list of bytes stands at an offset where the bytes from there on begin with it. -/
theorem standsAt_iff_take (f : List Byte) (room : i + f.length ≤ bytes.length) :
    StandsAt bytes i f ↔ (bytes.drop i).take f.length = f := by
  have read (j : Nat) (hj : j < f.length) : byteAt bytes (i + j) = bytes[i + j] := List.getD_eq_getElem bytes 0 (by omega)
  have own (j : Nat) (hj : j < f.length) : byteAt f j = f[j] := List.getD_eq_getElem f 0 hj
  constructor
  · intro h
    refine List.ext_getElem (by simp; omega) fun j _ hj => ?_
    rw [List.getElem_take, List.getElem_drop, ← read j hj, ← own j hj, h j hj]
  · intro h j hj
    rw [read j hj, own j hj]
    have := List.getElem_of_eq h.symm hj
    rw [this, List.getElem_take, List.getElem_drop]

theorem standsAt_take {k : Nat} (f : List Byte) (h : i + f.length ≤ k) : StandsAt (bytes.take k) i f ↔ StandsAt bytes i f :=
  forall₂_congr fun j hj => by rw [byteAt_take bytes (by omega)]

theorem standsAt_self (f rest : List Byte) : StandsAt (f ++ rest) 0 f := fun j hj => by rw [Nat.zero_add, byteAt_append_left hj]

/-- The tags of an ACCUSE stand two bytes each. -/
theorem standsAt_tags (tags : List Half) :
    StandsAt bytes i (tags.flatMap halfBytes) ↔ (List.range tags.length).map (fun j => halfAt bytes (i + 2 * j)) = tags := by
  induction tags generalizing i with
  | nil => exact iff_of_true standsAt_nil rfl
  | cons t rest ih =>
    rw [List.flatMap_cons, standsAt_append, standsAt_halfBytes, ih, List.length_cons, List.range_succ_eq_map, List.map_cons, List.map_map,
      List.cons.injEq]
    refine and_congr_right fun _ => ?_
    have places : (fun j => halfAt bytes (i + (halfBytes t).length + 2 * j)) = (fun j => halfAt bytes (i + 2 * j)) ∘ Nat.succ :=
      funext fun j => congrArg (halfAt bytes) (by simp [halfBytes]; omega)
    rw [places]

end

/-! ### Codes -/

theorem roleOf_eq_some_iff (b : Byte) (r : Role) : roleOf b = some r ↔ b = roleCode r := by
  unfold roleOf roleCode
  split_ifs with h0 h1 h2 h3 <;> cases r <;> simp_all

theorem accKindOf_eq_some_iff (b : Byte) (k : AccKind) : accKindOf b = some k ↔ b = accKindCode k := by
  unfold accKindOf accKindCode
  split_ifs with h1 h2 <;> cases k <;> simp_all

/-- The arbitration field gives its sender back. -/
theorem sender_of_arbitrationField (kind : NoteKind) (sender : BitVec 5) : (arbitrationField kind sender).extractLsb' 1 5 = sender := by
  revert sender; cases kind <;> decide

theorem fieldFits_and_senderOf_iff (kind : NoteKind) (bytes : List Byte) (sender : BitVec 5) :
    fieldFits kind bytes = true ∧ senderOf bytes = sender ↔ byteAt bytes 0 = arbitrationField kind sender := by
  rw [fieldFits, decide_eq_true_iff]
  constructor
  · rintro ⟨fits, rfl⟩; exact fits
  · intro h
    have same : senderOf bytes = sender := by rw [senderOf, h, sender_of_arbitrationField]
    exact ⟨by rw [same, h], same⟩

theorem standsAt_headerBytes (bytes : List Byte) (kind : NoteKind) (sender : BitVec 5) (tag : Half) (seq : Byte) :
    StandsAt bytes 0 (headerBytes kind sender tag seq) ↔
      (fieldFits kind bytes = true ∧ senderOf bytes = sender) ∧ byteAt bytes 1 = noteKindCode kind ∧ halfAt bytes 2 = tag ∧
        byteAt bytes 4 = seq := by
  rw [fieldFits_and_senderOf_iff, headerBytes, standsAt_append, standsAt_append, standsAt_cons, standsAt_singleton, standsAt_halfBytes,
    standsAt_singleton, and_assoc, and_assoc]
  rfl

/-! ### What bytes spell -/

/-- The bytes of a BEACON before its flag byte. -/
def beaconFore (b : BeaconNote) : List Byte :=
  headerBytes .beacon b.sender (serialTag b.serial) b.seq ++ wordBytes b.serial ++ [roleCode b.role] ++ halfBytes b.digest

/-- The flag byte of a BEACON. -/
def beaconFlags (b : BeaconNote) : Byte := flagBit b.quarantined 0 ||| flagBit b.saturated 1

/-- The bytes spell a note up to its check: they are those it is written in, but for a BEACON's flag bits above the two named. -/
def Spells (bytes : List Byte) (n : Note) : Prop :=
  match n with
  | .enrol e => StandsAt bytes 0 (bodyBytes (.enrol e))
  | .beacon b => StandsAt bytes 0 (beaconFore b) ∧ (∀ k < 2, (byteAt bytes 12).getLsbD k = (beaconFlags b).getLsbD k) ∧
      StandsAt bytes 13 (byteOf b.condemned.length :: b.condemned)
  | .accuse a => StandsAt bytes 0 (bodyBytes (.accuse a))
  | .rebut r => StandsAt bytes 0 (bodyBytes (.rebut r))

theorem spells_rebut_iff (bytes : List Byte) (r : RebutNote) : Spells bytes (.rebut r) ↔
    ((fieldFits .rebut bytes = true ∧ senderOf bytes = r.sender) ∧ byteAt bytes 1 = 4 ∧ halfAt bytes 2 = r.serialTag ∧
      byteAt bytes 4 = r.seq) ∧ byteAt bytes 5 = r.accuser ∧ halfAt bytes 6 = r.tag ∧ byteAt bytes 8 = accKindCode r.kind := by
  rw [Spells, bodyBytes, standsAt_append, standsAt_append, standsAt_append, standsAt_headerBytes, standsAt_singleton, standsAt_halfBytes,
    standsAt_singleton, and_assoc, and_assoc]
  rfl

theorem spells_enrol_iff (bytes : List Byte) (e : EnrolNote) : Spells bytes (.enrol e) ↔
    ((fieldFits .enrol bytes = true ∧ senderOf bytes = e.sender) ∧ byteAt bytes 1 = 1 ∧ halfAt bytes 2 = serialTag e.serial ∧
      byteAt bytes 4 = e.seq) ∧ wordAt bytes 5 = e.serial ∧ byteAt bytes 9 = roleCode e.role ∧ halfAt bytes 10 = e.digest := by
  rw [Spells, bodyBytes, standsAt_append, standsAt_append, standsAt_append, standsAt_headerBytes, standsAt_wordBytes, standsAt_singleton,
    standsAt_halfBytes, and_assoc, and_assoc]
  rfl

theorem getLsbD_flags (q s : Bool) : (flagBit q 0 ||| flagBit s 1).getLsbD 0 = q ∧ (flagBit q 0 ||| flagBit s 1).getLsbD 1 = s := by
  cases q <;> cases s <;> decide

theorem spells_beacon_iff (bytes : List Byte) (b : BeaconNote) : Spells bytes (.beacon b) ↔
    (((fieldFits .beacon bytes = true ∧ senderOf bytes = b.sender) ∧ byteAt bytes 1 = 2 ∧ halfAt bytes 2 = serialTag b.serial ∧
      byteAt bytes 4 = b.seq) ∧ wordAt bytes 5 = b.serial ∧ byteAt bytes 9 = roleCode b.role ∧ halfAt bytes 10 = b.digest) ∧
    ((byteAt bytes 12).getLsbD 0 = b.quarantined ∧ (byteAt bytes 12).getLsbD 1 = b.saturated) ∧
    byteAt bytes 13 = byteOf b.condemned.length ∧ StandsAt bytes 14 b.condemned := by
  have flags : (∀ k < 2, (byteAt bytes 12).getLsbD k = (beaconFlags b).getLsbD k) ↔
      (byteAt bytes 12).getLsbD 0 = b.quarantined ∧ (byteAt bytes 12).getLsbD 1 = b.saturated := by
    obtain ⟨quarantined, saturated⟩ := getLsbD_flags b.quarantined b.saturated
    refine ⟨fun h => ⟨(h 0 (by omega)).trans quarantined, (h 1 (by omega)).trans saturated⟩, fun ⟨h0, h1⟩ k hk => ?_⟩
    match k, hk with
    | 0, _ => exact h0.trans quarantined.symm
    | 1, _ => exact h1.trans saturated.symm
  rw [Spells, flags, standsAt_cons, beaconFore, standsAt_append, standsAt_append, standsAt_append, standsAt_headerBytes,
    standsAt_wordBytes, standsAt_singleton, standsAt_halfBytes, and_assoc (c := halfAt _ _ = _), and_assoc (c := _ ∧ halfAt _ _ = _)]
  rfl

theorem spells_accuse_iff (bytes : List Byte) (a : AccuseNote) : Spells bytes (.accuse a) ↔
    ((fieldFits .accuse bytes = true ∧ senderOf bytes = a.sender) ∧ byteAt bytes 1 = 3 ∧ halfAt bytes 2 = a.serialTag ∧
      byteAt bytes 4 = a.seq) ∧
    (byteAt bytes 5 = a.accused ∧ byteAt bytes 6 = accKindCode a.kind ∧ byteAt bytes 7 = byteOf a.tags.length) ∧
    (List.range a.tags.length).map (fun j => halfAt bytes (8 + 2 * j)) = a.tags ∧ byteAt bytes (8 + 2 * a.tags.length) = a.surplus := by
  have length : (a.tags.flatMap halfBytes).length = 2 * a.tags.length := by simp [halfBytes, List.length_flatMap]; omega
  rw [Spells, bodyBytes, standsAt_append, standsAt_append, standsAt_append, standsAt_headerBytes, standsAt_cons, standsAt_cons,
    standsAt_singleton, standsAt_tags, standsAt_singleton, List.length_append, List.length_append, length, Nat.zero_add, Nat.zero_add, Nat.zero_add,
    and_assoc, and_assoc]
  rfl

/-! ### Parsing -/

section
variable {bytes : List Byte}

theorem parseNote_rebut_iff (r : RebutNote) : parseNote bytes = some (.rebut r) ↔ Spells bytes (.rebut r) := by
  rw [spells_rebut_iff, ← accKindOf_eq_some_iff]
  by_cases code : byteAt bytes 1 = 4
  · obtain ⟨sender, tag, seq, accuser, of, kind⟩ := r
    cases found : accKindOf (byteAt bytes 8) <;> simp [parseNote, code, found]
    tauto
  · refine iff_of_false (fun h => ?_) fun h => code h.1.2.1
    obtain ⟨_, e, h⟩ | ⟨_, b, h, _⟩ | ⟨_, a, h, _⟩ | ⟨other, _⟩ := parseNote_cases h
    · cases h
    · cases h
    · cases h
    · exact code other

theorem parseNote_enrol_iff (e : EnrolNote) : parseNote bytes = some (.enrol e) ↔ e.serial ≠ 0 ∧ Spells bytes (.enrol e) := by
  rw [spells_enrol_iff, ← roleOf_eq_some_iff]
  by_cases code : byteAt bytes 1 = 1
  · obtain ⟨sender, seq, serial, role, digest⟩ := e
    cases found : roleOf (byteAt bytes 9) <;> simp [parseNote, code, found]
    constructor
    · rintro ⟨⟨fits, some, tag⟩, rfl, rfl, rfl, rfl, rfl⟩
      exact ⟨some, ⟨⟨fits, rfl⟩, tag, rfl⟩, rfl, rfl, rfl⟩
    · rintro ⟨some, ⟨⟨fits, rfl⟩, tag, rfl⟩, rfl, rfl, rfl⟩
      exact ⟨⟨fits, some, tag⟩, rfl, rfl, rfl, rfl, rfl⟩
  · refine iff_of_false (fun h => ?_) fun h => code h.2.1.2.1
    obtain ⟨other, _⟩ | ⟨_, b, h, _⟩ | ⟨_, a, h, _⟩ | ⟨_, r, h⟩ := parseNote_cases h
    · exact code other
    · cases h
    · cases h
    · cases h

theorem parseNote_beacon_iff (b : BeaconNote) (few : b.condemned.length ≤ 24) (length : bytes.length = 16 + b.condemned.length) :
    parseNote bytes = some (.beacon b) ↔ b.serial ≠ 0 ∧ Spells bytes (.beacon b) := by
  have list : (byteAt bytes 13 = byteOf b.condemned.length ∧ StandsAt bytes 14 b.condemned) ↔
      (bytes.drop 14).take (byteAt bytes 13).toNat = b.condemned := by
    constructor
    · rintro ⟨count, stands⟩
      rw [count, byteOf, BitVec.toNat_ofNat, Nat.mod_eq_of_lt (by omega)]
      exact (standsAt_iff_take _ (by omega)).1 stands
    · intro h
      have count : (byteAt bytes 13).toNat = b.condemned.length := by
        have := congrArg List.length h
        rw [List.length_take, List.length_drop] at this
        omega
      refine ⟨by rw [byteOf, ← count, BitVec.ofNat_toNat, BitVec.setWidth_eq], (standsAt_iff_take _ (by omega)).2 ?_⟩
      rw [← count, h]
  rw [spells_beacon_iff, ← roleOf_eq_some_iff, list]
  by_cases code : byteAt bytes 1 = 2
  · obtain ⟨sender, seq, serial, role, digest, quarantined, saturated, condemned⟩ := b
    cases found : roleOf (byteAt bytes 9) <;> simp [parseNote, code, found]
    constructor
    · rintro ⟨⟨fits, some, tag⟩, rfl, rfl, rfl, rfl, rfl, rfl, rfl, rfl⟩
      exact ⟨some, ⟨⟨⟨fits, rfl⟩, tag, rfl⟩, rfl, rfl, rfl⟩, ⟨rfl, rfl⟩, rfl⟩
    · rintro ⟨some, ⟨⟨⟨fits, rfl⟩, tag, rfl⟩, rfl, rfl, rfl⟩, ⟨rfl, rfl⟩, rfl⟩
      exact ⟨⟨fits, some, tag⟩, rfl, rfl, rfl, rfl, rfl, rfl, rfl, rfl⟩
  · refine iff_of_false (fun h => ?_) fun h => code h.2.1.1.2.1
    obtain ⟨_, e, h⟩ | ⟨other, _⟩ | ⟨_, a, h, _⟩ | ⟨_, r, h⟩ := parseNote_cases h
    · cases h
    · exact code other
    · cases h
    · cases h

theorem parseNote_accuse_iff (a : AccuseNote) (few : a.tags.length ≤ 6) :
    parseNote bytes = some (.accuse a) ↔ Spells bytes (.accuse a) := by
  have tags : (byteAt bytes 7 = byteOf a.tags.length ∧
        (List.range a.tags.length).map (fun j => halfAt bytes (8 + 2 * j)) = a.tags ∧
        byteAt bytes (8 + 2 * a.tags.length) = a.surplus) ↔
      (List.range (byteAt bytes 7).toNat).map (fun j => halfAt bytes (8 + 2 * j)) = a.tags ∧
        byteAt bytes (8 + 2 * (byteAt bytes 7).toNat) = a.surplus := by
    constructor
    · rintro ⟨count, h⟩
      rwa [count, byteOf, BitVec.toNat_ofNat, Nat.mod_eq_of_lt (by omega)]
    · intro h
      have count : (byteAt bytes 7).toNat = a.tags.length := by simpa using congrArg List.length h.1
      refine ⟨by rw [byteOf, ← count, BitVec.ofNat_toNat, BitVec.setWidth_eq], ?_⟩
      rwa [← count]
  rw [spells_accuse_iff, ← accKindOf_eq_some_iff, and_assoc (b := accKindOf _ = _ ∧ _), and_assoc (a := accKindOf _ = _), tags]
  by_cases code : byteAt bytes 1 = 3
  · obtain ⟨sender, tag, seq, accused, kind, list, surplus⟩ := a
    cases found : accKindOf (byteAt bytes 6) <;> simp [parseNote, code, found]
    tauto
  · refine iff_of_false (fun h => ?_) fun h => code h.1.2.1
    obtain ⟨_, e, h⟩ | ⟨_, b, h, _⟩ | ⟨other, _⟩ | ⟨_, r, h⟩ := parseNote_cases h
    · cases h
    · cases h
    · exact code other
    · cases h

/-! ### Judging -/

/-- A well-formed note is parsed from as many bytes as it is written in exactly where they spell it. -/
theorem parseNote_iff_spells {n : Note} (formed : n.wellFormed = true) (length : bytes.length = (noteBytes n).length) :
    parseNote bytes = some n ↔ Spells bytes n := by
  match n with
  | .enrol e => exact (parseNote_enrol_iff e).trans (and_iff_right (of_decide_eq_true formed))
  | .beacon b =>
    obtain ⟨some, few⟩ : b.serial ≠ 0 ∧ b.condemned.length ≤ 24 := by simpa [Note.wellFormed, BeaconNote.wellFormed] using formed
    exact (parseNote_beacon_iff b few (length.trans (length_noteBytes_beacon b))).trans (and_iff_right some)
  | .accuse a =>
    obtain ⟨_, few⟩ : 1 ≤ a.tags.length ∧ a.tags.length ≤ 6 := by simpa [Note.wellFormed, AccuseNote.wellFormed] using formed
    exact parseNote_accuse_iff a few
  | .rebut r => exact parseNote_rebut_iff r

theorem spells_take {n : Note} {k : Nat} (h : (noteBytes n).length ≤ k) : Spells (bytes.take k) n ↔ Spells bytes n := by
  have length : (noteBytes n).length = (bodyBytes n).length + 2 := by simp [noteBytes, halfBytes]
  match n with
  | .enrol e => exact standsAt_take _ (by omega)
  | .accuse a => exact standsAt_take _ (by omega)
  | .rebut r => exact standsAt_take _ (by omega)
  | .beacon b =>
    have long := length_noteBytes_beacon b
    have fore : (beaconFore b).length = 12 := rfl
    have flags : byteAt (bytes.take k) 12 = byteAt bytes 12 := byteAt_take bytes (by omega)
    exact and_congr (standsAt_take _ (by omega))
      (and_congr (by rw [flags]) (standsAt_take _ (by rw [List.length_cons]; omega)))

theorem noteLength_of_spells {n : Note} (formed : n.wellFormed = true) (long : (noteBytes n).length ≤ bytes.length)
    (spells : Spells bytes n) : noteLength bytes = some (noteBytes n).length := by
  match n with
  | .enrol e =>
    obtain ⟨⟨_, code, _⟩, _⟩ := (spells_enrol_iff bytes e).1 spells
    rw [length_noteBytes_enrol] at long ⊢
    rw [noteLength, if_neg (by omega), if_pos code]
  | .beacon b =>
    obtain ⟨⟨⟨_, code, _⟩, _⟩, _, count, _⟩ := (spells_beacon_iff bytes b).1 spells
    obtain ⟨_, few⟩ : b.serial ≠ 0 ∧ b.condemned.length ≤ 24 := by simpa [Note.wellFormed, BeaconNote.wellFormed] using formed
    have number : (byteAt bytes 13).toNat = b.condemned.length := by
      rw [count, byteOf, BitVec.toNat_ofNat, Nat.mod_eq_of_lt (by omega)]
    rw [length_noteBytes_beacon] at long ⊢
    rw [noteLength, if_neg (by omega), if_neg (by rw [code]; decide), if_pos code, number, if_neg (by omega)]
  | .accuse a =>
    obtain ⟨⟨_, code, _⟩, ⟨_, _, count⟩, _⟩ := (spells_accuse_iff bytes a).1 spells
    obtain ⟨some, few⟩ : 1 ≤ a.tags.length ∧ a.tags.length ≤ 6 := by simpa [Note.wellFormed, AccuseNote.wellFormed] using formed
    have number : (byteAt bytes 7).toNat = a.tags.length := by
      rw [count, byteOf, BitVec.toNat_ofNat, Nat.mod_eq_of_lt (by omega)]
    rw [length_noteBytes_accuse] at long ⊢
    rw [noteLength, if_neg (by omega), if_neg (by rw [code]; decide), if_neg (by rw [code]; decide), if_pos code, number,
      if_neg (by omega)]
  | .rebut r =>
    obtain ⟨⟨_, code, _⟩, _⟩ := (spells_rebut_iff bytes r).1 spells
    rw [length_noteBytes_rebut] at long ⊢
    rw [noteLength, if_neg (by omega), if_neg (by rw [code]; decide), if_neg (by rw [code]; decide), if_neg (by rw [code]; decide),
      if_pos code]

/-- A length of a BEACON holds its list at 24 entries, and one of an ACCUSE its tags at 1 to 6. -/
theorem noteLength_counts {k : Nat} (hk : noteLength bytes = some k) :
    (byteAt bytes 1 = 2 → 14 ≤ bytes.length ∧ (byteAt bytes 13).toNat ≤ 24 ∧ k = 16 + (byteAt bytes 13).toNat) ∧
    (byteAt bytes 1 = 3 → 1 ≤ (byteAt bytes 7).toNat ∧ (byteAt bytes 7).toNat ≤ 6) := by
  constructor <;> intro code
  · simp [noteLength, code] at hk; omega
  · simp [noteLength, code] at hk; omega

theorem wellFormed_of_parseNote_take {n : Note} {k : Nat} (hk : noteLength bytes = some k) (hle : k ≤ bytes.length)
    (hn : parseNote (bytes.take k) = some n) : n.wellFormed = true := by
  have long := eleven_le_noteLength hk
  have written := length_noteBytes_of_parseNote_take hk hle hn
  obtain ⟨beacon, accuse⟩ := noteLength_counts hk
  have spelled := parseNote_cases hn
  rw [byteAt_take bytes (show 1 < k by omega)] at spelled
  obtain ⟨_, e, rfl⟩ | ⟨code, b, rfl, _⟩ | ⟨code, a, rfl, count⟩ | ⟨_, r, rfl⟩ := spelled
  · exact decide_eq_true ((parseNote_enrol_iff e).1 hn).1
  · obtain ⟨_, few, rfl⟩ := beacon code
    rw [length_noteBytes_beacon] at written
    have length : (bytes.take (16 + (byteAt bytes 13).toNat)).length = 16 + b.condemned.length := by rw [List.length_take]; omega
    obtain ⟨some, _⟩ := (parseNote_beacon_iff b (by omega) length).1 hn
    exact Bool.and_eq_true_iff.2 ⟨decide_eq_true some, decide_eq_true (by omega)⟩
  · obtain ⟨some, few⟩ := accuse code
    rw [byteAt_take bytes (by omega)] at count
    exact Bool.and_eq_true_iff.2 ⟨decide_eq_true (by omega), decide_eq_true (by omega)⟩
  · rfl

/-- The bytes are judged as a note where it is well formed, they reach its end and spell it, and the check over them holds. -/
theorem judge_iff_spells (n : Note) : judge bytes = some n ↔ n.wellFormed = true ∧ (noteBytes n).length ≤ bytes.length ∧ Spells bytes n ∧
    halfAt bytes ((noteBytes n).length - 2) = crc16 (bytes.take ((noteBytes n).length - 2)) := by
  have taken (long : (noteBytes n).length ≤ bytes.length) : (bytes.take (noteBytes n).length).length = (noteBytes n).length := by
    rw [List.length_take]; omega
  rw [judge_eq_some_iff]
  constructor
  · rintro ⟨k, hk, hle, check, hn⟩
    have formed := wellFormed_of_parseNote_take hk hle hn
    obtain rfl := length_noteBytes_of_parseNote_take hk hle hn
    exact ⟨formed, hle, (spells_take le_rfl).1 ((parseNote_iff_spells formed (taken hle)).1 hn), check.symm⟩
  · rintro ⟨formed, long, spells, check⟩
    exact ⟨_, noteLength_of_spells formed long spells, long, check.symm,
      (parseNote_iff_spells formed (taken long)).2 ((spells_take le_rfl).2 spells)⟩

end

end Sys2Proof.Machine
end

section
/-! Notes as they are written and as they are received, by the statements (chapters 6, 8 and 11). -/

namespace Sys2Proof.Machine

open Sys2Proof.Safety

/-! ### The bytes by number -/

theorem halfBytes_eq (h : Half) : halfBytes h = [BitVec.ofNat 8 (h.toNat / 256), BitVec.ofNat 8 h.toNat] := by
  simp [halfBytes, BitVec.extractLsb', Nat.shiftRight_eq_div_pow]

theorem wordBytes_eq (w : Word) : wordBytes w = [BitVec.ofNat 8 (w.toNat / 16777216), BitVec.ofNat 8 (w.toNat / 65536),
    BitVec.ofNat 8 (w.toNat / 256), BitVec.ofNat 8 w.toNat] := by
  simp only [wordBytes, halfBytes_eq, BitVec.extractLsb'_toNat, Nat.shiftRight_eq_div_pow, List.cons_append, List.nil_append,
    List.cons.injEq, and_true]
  refine ⟨?_, ?_, ?_, ?_⟩ <;> apply BitVec.eq_of_toNat_eq <;> simp only [BitVec.toNat_ofNat] <;> omega

theorem halfBytes_serialTag (w : Word) :
    halfBytes (serialTag w) = [BitVec.ofNat 8 (w.toNat % 65536 / 256), BitVec.ofNat 8 (w.toNat % 65536)] := by
  rw [halfBytes_eq, serialTag, BitVec.extractLsb'_toNat]; rfl

theorem flagBits_eq (q s : Bool) : flagBit q 0 ||| flagBit s 1 =
    BitVec.ofNat 8 ((if q = true then 1 else 0) + (if s = true then 2 else 0)) := by cases q <;> cases s <;> rfl

/-! ### What is written is read back -/

theorem standsAt_middle (f g rest : List Byte) : StandsAt (f ++ g ++ rest) f.length g := fun j hj => by
  rw [List.append_assoc, byteAt_append_right, byteAt_append_left hj]

theorem length_noteBytes (n : Note) : (noteBytes n).length = (bodyBytes n).length + 2 := by simp [noteBytes, halfBytes]

theorem spells_of_standsAt_body {bytes : List Byte} {n : Note} (h : StandsAt bytes 0 (bodyBytes n)) : Spells bytes n := by
  match n with
  | .enrol e => exact h
  | .accuse a => exact h
  | .rebut r => exact h
  | .beacon b =>
    obtain ⟨fields, list⟩ := (standsAt_append _ _).1 h
    obtain ⟨fore, flags⟩ := (standsAt_append _ _).1 fields
    obtain ⟨flag, count⟩ := (standsAt_cons _ _).1 flags
    refine ⟨fore, fun k _ => congrArg (BitVec.getLsbD · k) flag, (standsAt_cons _ _).2 ⟨(standsAt_singleton _).1 count, list⟩⟩

theorem judge_noteBytes_append {n : Note} (formed : n.wellFormed = true) (rest : List Byte) : judge (noteBytes n ++ rest) = some n := by
  have body : noteBytes n ++ rest = bodyBytes n ++ (halfBytes (crc16 (bodyBytes n)) ++ rest) := List.append_assoc ..
  have check : halfAt (noteBytes n ++ rest) (bodyBytes n).length = crc16 (bodyBytes n) :=
    (standsAt_halfBytes _).1 (standsAt_middle _ _ rest)
  refine (judge_iff_spells n).2 ⟨formed, by rw [List.length_append]; omega, spells_of_standsAt_body ?_, ?_⟩
  · rw [body]; exact standsAt_self _ _
  · rw [length_noteBytes, Nat.add_sub_cancel, check, body, List.take_left]

/-- Bytes that follow a note do not change how it is judged. -/
theorem judge_of_judge_take {bytes : List Byte} {n : Note} {k : Nat} (h : judge (bytes.take k) = some n) : judge bytes = some n := by
  obtain ⟨formed, long, spells, check⟩ := (judge_iff_spells n).1 h
  have length := length_noteBytes n
  rw [List.length_take] at long
  refine (judge_iff_spells n).2 ⟨formed, by omega, (spells_take (by omega)).1 spells, ?_⟩
  rwa [halfAt, byteAt_take _ (by omega), byteAt_take _ (by omega), List.take_take, Nat.min_eq_left (by omega)] at check

/-- Settles O35: the fields by number, reading back by `Spells`, and the lengths. -/
theorem notesReadAsTheyAreWritten : Obligations.NotesReadAsTheyAreWritten := by
  unfold Obligations.NotesReadAsTheyAreWritten
  intro b two four header role kind bit n formed
  have two_eq (h : Half) : halfBytes h = two h.toNat := halfBytes_eq h
  have tag_eq (w : Word) : halfBytes (serialTag w) = two (w.toNat % 65536) := halfBytes_serialTag w
  have four_eq (w : Word) : wordBytes w = four w.toNat := wordBytes_eq w
  have role_eq (r : Role) : roleCode r = role r := by cases r <;> rfl
  have kind_eq (k : AccKind) : accKindCode k = kind k := by cases k <;> rfl
  have flags_eq (q s : Bool) : flagBit q 0 ||| flagBit s 1 = b (bit q 1 + bit s 2) := flagBits_eq q s
  have tags_eq : halfBytes = fun t => two t.toNat := funext two_eq
  refine ⟨?_, judge_noteBytes_append formed, fun k hk => ?_, ?_⟩
  · intro body
    have same : bodyBytes n = body := by
      cases n with
      | enrol e => rw [bodyBytes, headerBytes, arbitrationField_eq, tag_eq, four_eq, role_eq, two_eq]; rfl
      | beacon e => rw [bodyBytes, headerBytes, arbitrationField_eq, tag_eq, four_eq, role_eq, two_eq, flags_eq]; rfl
      | accuse a => rw [bodyBytes, headerBytes, arbitrationField_eq, kind_eq, tags_eq]; rfl
      | rebut r => rw [bodyBytes, headerBytes, arbitrationField_eq, kind_eq, two_eq, two_eq]; rfl
    rw [noteBytes, same, two_eq]
  · refine Option.eq_none_iff_forall_ne_some.2 fun m judged => ?_
    have whole : judge (noteBytes n) = some n := by simpa using judge_noteBytes_append formed []
    obtain rfl := Option.some.inj (whole.symm.trans (judge_of_judge_take judged))
    obtain ⟨_, long, _⟩ := (judge_iff_spells n).1 judged
    rw [List.length_take] at long
    omega
  · cases n with
    | enrol e => exact length_noteBytes_enrol e
    | beacon e => exact length_noteBytes_beacon e
    | accuse a => exact length_noteBytes_accuse a
    | rebut r => exact length_noteBytes_rebut r

/-! ### The bytes judged as a note, place by place -/

theorem byteAt_noteBytes {n : Note} {i : Nat} (h : i < (bodyBytes n).length) : byteAt (noteBytes n) i = byteAt (bodyBytes n) i :=
  byteAt_append_left h

/-- A note without flag bits is spelled where each place before its check holds its byte. -/
theorem standsAt_body_iff (bytes : List Byte) (n : Note) : StandsAt bytes 0 (bodyBytes n) ↔
    ∀ i, i + 2 < (noteBytes n).length → byteAt bytes i = byteAt (noteBytes n) i := by
  rw [length_noteBytes]
  constructor
  · intro h i hi
    rw [byteAt_noteBytes (by omega), ← h i (by omega), Nat.zero_add]
  · intro h j hj
    rw [Nat.zero_add, h j (by omega), byteAt_noteBytes hj]

/-- A BEACON is spelled where each place before its check, but the flag byte, holds its byte, and the flag byte its two flags. -/
theorem spells_beacon_iff_places (bytes : List Byte) (b : BeaconNote) : Spells bytes (.beacon b) ↔
    (∀ i, i + 2 < (noteBytes (.beacon b)).length → i ≠ 12 → byteAt bytes i = byteAt (noteBytes (.beacon b)) i) ∧
    ∀ k < 2, (byteAt bytes 12).getLsbD k = (byteAt (noteBytes (.beacon b)) 12).getLsbD k := by
  have written : StandsAt (noteBytes (.beacon b)) 0 (bodyBytes (.beacon b)) := standsAt_self _ _
  obtain ⟨fields, list⟩ := (standsAt_append _ _).1 written
  obtain ⟨fore, flags⟩ := (standsAt_append _ _).1 fields
  obtain ⟨flag, count⟩ := (standsAt_cons _ _).1 flags
  have rest : StandsAt (noteBytes (.beacon b)) 13 (byteOf b.condemned.length :: b.condemned) :=
    (standsAt_cons _ _).2 ⟨(standsAt_singleton _).1 count, list⟩
  have flag_eq : byteAt (noteBytes (.beacon b)) 12 = beaconFlags b := flag
  have fore_length : (beaconFore b).length = 12 := rfl
  rw [Spells, flag_eq, length_noteBytes_beacon]
  constructor
  · rintro ⟨first, named, last⟩
    refine ⟨fun i hi other => ?_, named⟩
    by_cases early : i < 12
    · rw [← Nat.zero_add i]
      exact (first i early).trans (fore i early).symm
    · obtain ⟨j, rfl⟩ := Nat.exists_eq_add_of_le (show 13 ≤ i by omega)
      have inside : j < (byteOf b.condemned.length :: b.condemned).length := by rw [List.length_cons]; omega
      exact (last j inside).trans (rest j inside).symm
  · rintro ⟨same, named⟩
    refine ⟨fun j hj => ?_, named, fun j hj => ?_⟩
    · exact (same (0 + j) (by omega) (by omega)).trans (fore j hj)
    · rw [List.length_cons] at hj
      exact (same (13 + j) (by omega) (by omega)).trans (rest j (by rwa [List.length_cons]))

/-! ### Receptions -/

variable {s : State}

theorem hears_iff (s : State) : s.hears = true ↔ takesNotes s := by
  simp only [State.hears, State.listens, State.sending, Bool.and_eq_true, Bool.not_eq_true', decide_eq_true_eq, List.any_eq_false,
    and_assoc]

theorem exec_receiveOf (quiet : Quiet s) (n : Note) : exec (receiveOf n) s = .next (s.takeNote n) := by
  cases n <;> exact congrArg (fun t : State => Host.Outcome.next (t.takeNote _)) (settle_of_quiet s quiet)

theorem exec_receiveGarbledNote (quiet : Quiet s) (r : Reception) : exec (.receiveGarbledNote r) s = .next (s.takeReception r) := by
  rw [exec, execReceiveGarbledNote, settle_of_quiet s quiet]

theorem takeNote_of_deaf (deaf : ¬ takesNotes s) (n : Note) : s.takeNote n = s := by
  unfold State.takeNote
  rw [if_pos (by simpa using mt (hears_iff s).1 deaf)]

theorem takeReception_of_deaf (deaf : ¬ takesNotes s) (r : Reception) : s.takeReception r = s := by
  rw [State.takeReception, if_pos (by simpa using mt (hears_iff s).1 deaf)]

theorem takeNote_of_malformed (takes : takesNotes s) {n : Note} (malformed : n.wellFormed = false) :
    s.takeNote n = (waitsForIdle s).latchFlag rxGarbled := by
  unfold State.takeNote
  rw [if_neg (by simpa using (hears_iff s).2 takes), if_pos (by simp [malformed])]; rfl

theorem takeReception_of_note {r : Reception} {n : Note} (judged : judge r.bytes = some n) : s.takeReception r = s.takeNote n := by
  by_cases takes : takesNotes s
  · rw [State.takeReception, if_neg (by simpa using (hears_iff s).2 takes), judged]
  · rw [takeReception_of_deaf takes, takeNote_of_deaf takes]

theorem takeReception_of_ended (takes : takesNotes s) {r : Reception} (none : judge r.bytes = none)
    (ended : noteEnded r.bytes = true ∨ r.ending = .dominantStop) : s.takeReception r = (waitsForIdle s).latchFlag rxGarbled := by
  rw [State.takeReception, if_neg (by simpa using (hears_iff s).2 takes), none]
  obtain h | h := ended
  · rw [h]; rfl
  · rw [h]; cases noteEnded r.bytes <;> rfl

theorem takeReception_of_cut_short (takes : takesNotes s) {bytes : List Byte} (none : judge bytes = none)
    (short : noteEnded bytes = false) : s.takeReception ⟨bytes, .lineIdle⟩ = s.discardIncomplete := by
  rw [State.takeReception, if_neg (by simpa using (hears_iff s).2 takes)]
  dsimp only
  rw [none, short]

/-- Bytes judged as a note reach its end. -/
theorem noteEnded_of_judge {bytes : List Byte} {n : Note} (h : judge bytes = some n) : noteEnded bytes = true := by
  obtain ⟨k, hk, hle, -⟩ := (judge_eq_some_iff bytes n).1 h
  rw [noteEnded, hk]
  exact decide_eq_true hle

theorem one_lt_of_code {bytes : List Byte} (h : byteAt bytes 1 ≠ 0) : ¬ bytes.length ≤ 1 := fun short =>
  h (List.getD_eq_default _ _ short)

/-- The note's end by the numbers of its kind and counts. -/
theorem noteEnded_iff (bytes : List Byte) : noteEnded bytes = true ↔
    if (byteAt bytes 1).toNat = 1 then 14 ≤ bytes.length
    else if (byteAt bytes 1).toNat = 2 then
      14 ≤ bytes.length ∧ (24 < (byteAt bytes 13).toNat ∨ 16 + (byteAt bytes 13).toNat ≤ bytes.length)
    else if (byteAt bytes 1).toNat = 3 then
      8 ≤ bytes.length ∧ ((byteAt bytes 7).toNat = 0 ∨ 6 < (byteAt bytes 7).toNat ∨ 11 + 2 * (byteAt bytes 7).toNat ≤ bytes.length)
    else if (byteAt bytes 1).toNat = 4 then 11 ≤ bytes.length
    else 2 ≤ bytes.length := by
  have number (k : Nat) (small : k < 256) : (byteAt bytes 1).toNat = k ↔ byteAt bytes 1 = BitVec.ofNat 8 k := by
    rw [← BitVec.toNat_inj, BitVec.toNat_ofNat, Nat.mod_eq_of_lt small]
  simp only [number 1 (by omega), number 2 (by omega), number 3 (by omega), number 4 (by omega)]
  by_cases enrol : byteAt bytes 1 = 1#8
  · have long := one_lt_of_code (bytes := bytes) (by rw [enrol]; decide)
    simp [noteEnded, noteLength, enrol, long]
  by_cases beacon : byteAt bytes 1 = 2#8
  · have long := one_lt_of_code (bytes := bytes) (by rw [beacon]; decide)
    by_cases unknown : bytes.length < 14 ∨ 24 < (byteAt bytes 13).toNat
    · simp [noteEnded, noteLength, beacon, long, unknown]; omega
    · simp [noteEnded, noteLength, beacon, long, unknown]; omega
  by_cases accuse : byteAt bytes 1 = 3#8
  · have long := one_lt_of_code (bytes := bytes) (by rw [accuse]; decide)
    by_cases unknown : bytes.length < 8 ∨ (byteAt bytes 7).toNat = 0 ∨ 6 < (byteAt bytes 7).toNat
    · simp [noteEnded, noteLength, accuse, long, unknown]; omega
    · simp [noteEnded, noteLength, accuse, long, unknown]; omega
  by_cases rebut : byteAt bytes 1 = 4#8
  · have long := one_lt_of_code (bytes := bytes) (by rw [rebut]; decide)
    simp [noteEnded, noteLength, rebut, long]
  · simp [noteEnded, noteLength, enrol, beacon, accuse, rebut]

theorem not_isSlot_of_discarded {c : ConfigRecord} {sender : BitVec 5} (hc : s.ctl.config = some c)
    (h : s.ctl.config = none ∨ sender.toNat = 0 ∨ 24 < sender.toNat) : (!isSlot sender.toNat) = true := by
  rw [Bool.not_eq_true', Bool.eq_false_iff, Ne, isSlot_iff]
  obtain h | h | h := h
  · rw [hc] at h; cases h
  · omega
  · omega

theorem takeIdentity_of_discarded {sender : BitVec 5} (h : s.ctl.config = none ∨ sender.toNat = 0 ∨ 24 < sender.toNat) (seq : Byte)
    (serial : Word) (role : Role) (digest : Half) (view : Option BeaconView) : s.takeIdentity sender seq serial role digest view = s := by
  unfold State.takeIdentity
  cases hc : s.ctl.config with
  | none => rfl
  | some c => exact if_pos (not_isSlot_of_discarded hc h)

theorem takeAccuse_of_discarded {a : AccuseNote} (h : s.ctl.config = none ∨ a.sender.toNat = 0 ∨ 24 < a.sender.toNat) :
    s.takeAccuse a = s := by
  unfold State.takeAccuse
  cases hc : s.ctl.config with
  | none => rfl
  | some c => exact if_pos (not_isSlot_of_discarded hc h)

theorem takeRebutNote_of_discarded {r : RebutNote} (h : s.ctl.config = none ∨ r.sender.toNat = 0 ∨ 24 < r.sender.toNat) :
    s.takeRebutNote r = s := by
  unfold State.takeRebutNote
  cases hc : s.ctl.config with
  | none => rfl
  | some c => exact if_pos (not_isSlot_of_discarded hc h)

theorem takeNote_enrol (takes : takesNotes s) {e : EnrolNote} (formed : e.wellFormed = true) :
    s.takeNote (.enrol e) = (waitsForIdle s).takeIdentity e.sender e.seq e.serial e.role e.digest none := by
  rw [State.takeNote, if_neg (by simpa using (hears_iff s).2 takes), if_neg (by simpa [Note.wellFormed] using formed)]; rfl

theorem takeNote_beacon (takes : takesNotes s) {b : BeaconNote} (formed : b.wellFormed = true) :
    s.takeNote (.beacon b) = (waitsForIdle s).takeIdentity b.sender b.seq b.serial b.role b.digest
      (some { quarantined := b.quarantined, saturated := b.saturated, condemned := b.condemned }) := by
  rw [State.takeNote, if_neg (by simpa using (hears_iff s).2 takes), if_neg (by simpa [Note.wellFormed] using formed)]; rfl

theorem takeNote_accuse (takes : takesNotes s) {a : AccuseNote} (formed : a.wellFormed = true) :
    s.takeNote (.accuse a) = (waitsForIdle s).takeAccuse a := by
  rw [State.takeNote, if_neg (by simpa using (hears_iff s).2 takes), if_neg (by simpa [Note.wellFormed] using formed)]; rfl

theorem takeNote_rebut (takes : takesNotes s) (r : RebutNote) : s.takeNote (.rebut r) = (waitsForIdle s).takeRebutNote r := by
  rw [State.takeNote, if_neg (by simpa using (hears_iff s).2 takes), if_neg (by simp [Note.wellFormed, RebutNote.wellFormed])]; rfl

/-- Settles O36: the bytes judged place by place, then each reception by whether the station takes notes and the bytes reach the end. -/
theorem garbledNoteIsDiscarded : Obligations.GarbledNoteIsDiscarded := by
  refine ⟨fun bytes n => ?_, fun s bytes quiet => ?_⟩
  · rw [judge_iff_spells]
    refine and_congr_right fun _ => and_congr_right fun long => ?_
    have last : (noteBytes n).length - 1 = (noteBytes n).length - 2 + 1 := by rw [length_noteBytes]; omega
    rw [last, ← and_assoc]
    refine and_congr ?_ Iff.rfl
    have plain (m : Note) : StandsAt bytes 0 (bodyBytes m) ↔
        (∀ i, i + 2 < (noteBytes m).length → ¬ False → byteAt bytes i = byteAt (noteBytes m) i) ∧
          ∀ i, False → ∀ k < 2, (byteAt bytes i).getLsbD k = (byteAt (noteBytes m) i).getLsbD k :=
      (standsAt_body_iff bytes m).trans ⟨fun h => ⟨fun i hi _ => h i hi, fun _ no => no.elim⟩, fun h i hi => h.1 i hi id⟩
    cases n with
    | enrol e => exact plain (.enrol e)
    | accuse a => exact plain (.accuse a)
    | rebut r => exact plain (.rebut r)
    | beacon b => exact (spells_beacon_iff_places bytes b).trans (and_congr Iff.rfl ⟨fun h i e => e ▸ h, fun h => h 12 rfl⟩)
  · intro garbled idle byte ended
    have ended_iff : noteEnded bytes = true ↔ ended := noteEnded_iff bytes
    have received := exec_receiveGarbledNote quiet
    have idled : Quiet idle := quiet
    refine ⟨fun takes none here ending => ?_, fun takes none => ?_, fun takes short => ?_, fun takes => ⟨?_, ?_, ?_⟩,
      fun deaf => ⟨?_, ?_, ?_, ?_, ?_⟩, fun n ending judged => ?_, fun takes => ?_⟩
    · rw [received, takeReception_of_ended takes none (.inl (ended_iff.2 here))]
    · rw [received, takeReception_of_ended takes none (.inr rfl)]
    · have unended : noteEnded bytes = false := Bool.eq_false_iff.2 fun e => short (ended_iff.1 e)
      have none : judge bytes = none := Option.eq_none_iff_forall_ne_some.2 fun n judged => short (ended_iff.1 (noteEnded_of_judge judged))
      have hearing : takesNotes idle := ⟨takes.1, takes.2.1, rfl, takes.2.2.2⟩
      have silent : ¬ ∃ n ∈ s.xmt.buffer, n.state = .underWay := fun ⟨n, hn, sent⟩ => takes.2.2.2 n hn sent
      have goes (t : State) (h : Quiet t) (out : t.ctl.inReset = false) (configured : t.ctl.station ≠ .unconfigured)
          (line : ¬ ∃ n ∈ t.xmt.buffer, n.state = .underWay) : exec .busIdle t = .next t.lineIdle := by
        rw [exec, execBusIdle, settle_of_quiet t h, goIdle_eq, if_pos ⟨out, configured, line⟩]
      refine ⟨?_, goes (idle.latchFlag rxGarbled) quiet takes.1 takes.2.1 silent, goes s quiet takes.1 takes.2.1 silent, ?_⟩
      · rw [received, takeReception_of_cut_short takes none unended]; rfl
      · rw [exec_receiveGarbledNote (s := idle) idled, takeReception_of_cut_short hearing none unended]; rfl
    · exact fun e malformed => (exec_receiveOf quiet (.enrol e)).trans (congrArg _ (takeNote_of_malformed takes malformed))
    · exact fun b malformed => (exec_receiveOf quiet (.beacon b)).trans (congrArg _ (takeNote_of_malformed takes malformed))
    · exact fun a malformed => (exec_receiveOf quiet (.accuse a)).trans (congrArg _ (takeNote_of_malformed takes malformed))
    · exact fun ending => by rw [received, takeReception_of_deaf deaf]
    · exact fun e => (exec_receiveOf quiet (.enrol e)).trans (congrArg _ (takeNote_of_deaf deaf _))
    · exact fun b => (exec_receiveOf quiet (.beacon b)).trans (congrArg _ (takeNote_of_deaf deaf _))
    · exact fun a => (exec_receiveOf quiet (.accuse a)).trans (congrArg _ (takeNote_of_deaf deaf _))
    · exact fun r => (exec_receiveOf quiet (.rebut r)).trans (congrArg _ (takeNote_of_deaf deaf _))
    · rw [received, takeReception_of_note judged, ← exec_receiveOf quiet]; cases n <;> rfl
    · intro discards
      refine ⟨?_, ?_, ?_, ?_⟩
      · exact fun e formed h => (exec_receiveOf quiet (.enrol e)).trans
          (congrArg _ ((takeNote_enrol takes formed).trans (takeIdentity_of_discarded (s := waitsForIdle s) h ..)))
      · exact fun b formed h => (exec_receiveOf quiet (.beacon b)).trans
          (congrArg _ ((takeNote_beacon takes formed).trans (takeIdentity_of_discarded (s := waitsForIdle s) h ..)))
      · exact fun a formed h => (exec_receiveOf quiet (.accuse a)).trans
          (congrArg _ ((takeNote_accuse takes formed).trans (takeAccuse_of_discarded h)))
      · exact fun r h => (exec_receiveOf quiet (.rebut r)).trans
          (congrArg _ ((takeNote_rebut takes r).trans (takeRebutNote_of_discarded h)))

end Sys2Proof.Machine
end

section
/-! Reception of ENROL, BEACON and REBUT as the statements give it (chapters 4 and 8). -/

namespace Sys2Proof.Machine

open Sys2Proof.Safety

variable {s : State} {c : ConfigRecord}

/-! ### Posts stand after what is written -/

theorem post_setRecord (s : State) (b : NoticeBody) (x : Nat) (r : BoardRecord) :
    (s.post b).setRecord x r = (s.setRecord x r).post b := by
  unfold State.post State.setRecord; dsimp only; split <;> rfl

theorem post_setAccusations (s : State) (b : NoticeBody) (l : List Accusation) :
    (s.post b).setAccusations l = (s.setAccusations l).post b := by
  unfold State.post State.setAccusations; dsimp only; split <;> rfl

/-! ### The count -/

theorem countAccepted_eq (tables : Tables s) {x : Nat} (hx : isSlot x = true) : s.countAccepted c x =
    if (s.entry x).accepted = c.babble then
      (s.setEntry x { s.entry x with accepted := min 256 ((s.entry x).accepted + 1), mute := 2 }).applyAndEvaluate c s.ownSlot x .babble 1
    else s.setEntry x { s.entry x with accepted := min 256 ((s.entry x).accepted + 1) } := by
  unfold State.countAccepted
  dsimp only
  rw [State.entry_setEntry_same s tables.2 x hx, setEntry_setEntry]
  rfl

/-- Settles O43: the count in its two cases. -/
theorem babbleIsFound : Obligations.BabbleIsFound := by
  intro s c x tables low high e
  rw [countAccepted_eq tables ((isSlot_iff x).2 ⟨low, high⟩)]
  exact ⟨fun h => if_neg h, fun h => by rw [if_pos h, h]⟩

/-! ### What an ENROL or BEACON brings -/

/-- The content of a BEACON as the receiver hands it on. -/
def viewOf (d : Identity) : Option BeaconView :=
  d.content.map fun v => { quarantined := v.1, saturated := v.2.1, condemned := v.2.2 }

theorem takeView_viewOf (c : ConfigRecord) (d : Identity) (s : State) : s.takeView c d.slot (viewOf d) = contentTaken c d s := by
  obtain ⟨slot, seq, serial, role, digest, content⟩ := d
  obtain _ | ⟨quarantined, saturated, condemned⟩ := content
  · rfl
  · have listed : (condemned.any fun b => decide (b.toNat = s.ownSlot)) = decide (∃ b ∈ condemned, b.toNat = s.ownSlot) := by
      rw [Bool.eq_iff_iff]; simp
    unfold State.takeView contentTaken viewOf
    dsimp only [Option.map_some]
    rw [listed]
    cases quarantined with
    | false => rfl
    | true =>
      refine congrArg (State.peerQuorum c) ?_
      by_cases bad : (s.record slot).standing = .condemned
      · rw [if_pos rfl, if_neg fun h => h.2 bad]; exact if_pos bad
      · rw [if_pos rfl, if_pos ⟨rfl, bad⟩]; exact if_neg bad

theorem exec_identity {i : Instr} {d : Identity} (hd : identityOf i = some d) (formed : i.wellFormed = true) (quiet : Quiet s)
    (takes : takesNotes s) (hc : s.ctl.config = some c) : exec i s = .next
      (if (!isSlot d.slot) = true then waitsForIdle s
      else if d.slot = s.ownSlot then (waitsForIdle s).ownSlotIdentity c d.serial
      else (waitsForIdle s).peerIdentity c d.slot d.seq d.serial d.role d.digest (viewOf d)) := by
  have config : (waitsForIdle s).ctl.config = some c := hc
  unfold identityOf at hd
  split at hd <;> cases hd
  · rename_i n
    refine (exec_receiveOf quiet (.enrol n)).trans (congrArg _ ((takeNote_enrol takes formed).trans ?_))
    unfold State.takeIdentity; rw [config]; rfl
  · rename_i n
    refine (exec_receiveOf quiet (.beacon n)).trans (congrArg _ ((takeNote_beacon takes formed).trans ?_))
    unfold State.takeIdentity; rw [config]; rfl

/-- The content leaves the count of the sender. -/
theorem contentTaken_accepted (length : s.rcv.roster.length = 24) {d : Identity} (hx : isSlot d.slot = true) :
    ((contentTaken c d s).entry d.slot).accepted = (s.entry d.slot).accepted := by
  rw [← takeView_viewOf]
  unfold State.takeView
  cases viewOf d with
  | none => rfl
  | some v =>
    dsimp only
    have entry_eq (t : State) : (t.peerQuorum c).entry d.slot = t.entry d.slot := by rw [State.entry, (peerQuorum_frame c t).rcv]; rfl
    have reported (t : State) : (t.selfReport d.slot).entry d.slot = t.entry d.slot := by
      rw [State.entry, State.selfReport, (changeStanding_frame ..).rcv]; rfl
    rw [entry_eq, apply_ite (fun t => State.entry t d.slot), reported, ite_self, State.entry_setEntry_same s length _ hx]

theorem exec_peer {i : Instr} {d : Identity} (hd : identityOf i = some d) (formed : i.wellFormed = true) (quiet : Quiet s)
    (takes : takesNotes s) (hc : s.ctl.config = some c) (hx : isSlot d.slot = true) (peer : d.slot ≠ s.ownSlot) :
    exec i s = .next
      (if (s.entry d.slot).serial = 0 then
        (waitsForIdle s).firstEnrolment c d.slot d.seq d.serial d.role d.digest (viewOf d)
      else if (s.entry d.slot).serial = d.serial then (waitsForIdle s).sameSerial c d.slot d.seq d.role d.digest (viewOf d)
      else if (s.entry d.slot).presence = .lapsed then (waitsForIdle s).replacement c d.slot d.serial d.role d.digest (viewOf d)
      else if (s.entry d.slot).serial.toNat < d.serial.toNat then
        (waitsForIdle s).switchStation c d.slot d.serial d.role d.digest (viewOf d)
      else (waitsForIdle s).noteConflict d.slot (s.entry d.slot).serial (.serial d.serial)) := by
  rw [exec_identity hd formed quiet takes hc, if_neg (by simp [hx]), if_neg peer]; rfl

theorem serial_ne_zero {i : Instr} {d : Identity} (hd : identityOf i = some d) (formed : i.wellFormed = true) : d.serial ≠ 0 := by
  unfold identityOf at hd
  split at hd <;> cases hd
  · exact of_decide_eq_true formed
  · exact of_decide_eq_true (Bool.and_eq_true_iff.1 formed).1

/-- Settles O37: the entry with its digest match and presence, then the content and the count. -/
theorem peerIsEnrolledOrRefreshed : Obligations.PeerIsEnrolledOrRefreshed := by
  intro s c i d hd formed quiet takes hc tables low high peer e matched entered compared present taken
  have hx : isSlot d.slot = true := (isSlot_iff _).2 ⟨low, high⟩
  have length : (waitsForIdle s).rcv.roster.length = 24 := tables.2
  have serial := serial_ne_zero hd formed
  have brings (f : RosterEntry) (same : ({ f with matched := matched, presence := .present, lapse := 0 } : RosterEntry) =
        { e with serial := d.serial, role := d.role, lastSeq := some d.seq, matched := matched, presence := .present, lapse := 0 })
      (was : f.matched = e.matched) (seen : f.presence = e.presence) :
      ((((waitsForIdle s).setEntry d.slot f).compareDigest d.slot d.digest).refreshPresence d.slot).takeView c d.slot (viewOf d) = taken := by
    rw [takeView_viewOf, compareDigest_refreshPresence_eq length hx]
    simp only [was, seen]
    exact congrArg (fun g : RosterEntry => contentTaken c d ((fun t : State =>
        if e.presence = .present then t else t.post (.presence d.slot e.presence .present))
      (if e.matched = matched then (waitsForIdle s).setEntry d.slot g
        else ((waitsForIdle s).setEntry d.slot g).post (.mismatch d.slot matched d.digest)))) same
  have again (known : e.serial = d.serial) := brings { e with role := d.role, lastSeq := some d.seq } (by rw [← known]) rfl rfl
  rw [exec_peer hd formed quiet takes hc hx peer]
  refine ⟨?_, fun first => ?_, fun known fresh => ?_, fun known retry => ?_⟩
  · have present_rcv : present.rcv = entered.rcv := by simp only [present, compared]; split_ifs <;> simp
    rw [contentTaken_accepted (by rw [present_rcv]; simpa [entered] using length) hx, State.entry, present_rcv]
    have read : entered.entry d.slot = _ := State.entry_setEntry_same (waitsForIdle s) length _ hx _
    change (entered.entry d.slot).accepted = e.accepted
    rw [read]
  · rw [if_pos first]
    exact congrArg (fun t : State => Host.Outcome.next (t.countAccepted c d.slot))
      (brings { e with serial := d.serial, role := d.role, lastSeq := some d.seq } rfl rfl rfl)
  · rw [if_neg (by rw [known]; exact serial), if_pos known]
    exact congrArg Host.Outcome.next ((if_neg (by rw [decide_eq_true_iff]; exact fresh)).trans (congrArg (State.countAccepted c d.slot) (again known)))
  · rw [if_neg (by rw [known]; exact serial), if_pos known]
    exact congrArg Host.Outcome.next ((if_pos (decide_eq_true retry)).trans (again known))

/-! ### A change of station -/

/-- The entry of a slot whose station has changed, by its digest match and conflict-seen flag. -/
def freshEntry (serial : Word) (role : Role) (matched seen : Bool) : RosterEntry :=
  { serial := serial, role := role, matched := matched, presence := .present, lapse := 0, lastSeq := none, accepted := 0, mute := 0,
    quarantined := false, saturated := false, condemnsMe := false, conflictSeen := seen }

theorem changedEntry_eq (e : RosterEntry) (serial : Word) (role : Role) :
    changedEntry e serial role = freshEntry serial role e.matched e.conflictSeen := rfl

theorem compareDigest_of_entry {x : Nat} {f : RosterEntry} (h : s.entry x = f) (digest : Half) : s.compareDigest x digest =
    if f.matched = decide (s.ctl.digest = some digest) then s
    else (s.setEntry x { f with matched := decide (s.ctl.digest = some digest) }).post
      (.mismatch x (decide (s.ctl.digest = some digest)) digest) := by
  subst h; rfl

theorem noteConflict_of_entry {x : Nat} {f : RosterEntry} (h : s.entry x = f) (kept : Word) (refused : Refused) :
    s.noteConflict x kept refused =
    if f.conflictSeen = true then s else (s.setEntry x { f with conflictSeen := true }).post (.slotConflict x kept refused) := by
  subst h; rfl

/-- The first note counted since the entry was cleared. -/
theorem countAccepted_of_cleared (some : c.babble ≠ 0) {x : Nat} (none : (s.entry x).accepted = 0) :
    s.countAccepted c x = s.setEntry x { s.entry x with accepted := 1 } := by
  obtain ⟨_, e⟩ | ⟨full, _⟩ := countAccepted_cases c x s
  · rw [e, none]; rfl
  · exact absurd (full.symm.trans none) some

/-- The board record of a slot whose station has been replaced. -/
def wipedRecord (c : ConfigRecord) (r : BoardRecord) : BoardRecord :=
  { score := 0, standing := .clear, cause := if r.standing = .clear then r.cause else some .replacement, probation := c.probation,
    quorumShort := false, witnesses := [] }

theorem replaceBoard_eq (length : s.eng.records.length = 24) {x : Nat} (hx : isSlot x = true) : s.replaceBoard c x =
    let v := (s.setRecord x (wipedRecord c (s.record x))).setAccusations
      (s.eng.accusations.filter fun a => decide (a.accuser ≠ x ∧ a.accused ≠ x))
    if (s.record x).standing = .clear then v else v.post (.standing x (s.record x).standing .clear .replacement) := by
  let left := s.setAccusations (s.eng.accusations.filter fun a => decide (a.accuser ≠ x ∧ a.accused ≠ x))
  have reset : (left.setRecord x (clearedRecord c (s.record x))).record x = clearedRecord c (s.record x) :=
    State.record_setRecord_same left length x hx _
  have board : s.replaceBoard c x = (left.setRecord x (clearedRecord c (s.record x))).changeStanding x .clear .replacement := by
    simp only [State.replaceBoard, State.clearRecord, State.record_setAccusations, left, Bool.decide_and]
  rw [board, State.changeStanding, reset]
  dsimp only
  by_cases clear : (s.record x).standing = .clear
  · rw [if_pos clear, if_pos (show (clearedRecord c (s.record x)).standing = .clear from clear)]
    have same : clearedRecord c (s.record x) = wipedRecord c (s.record x) := by
      simp only [clearedRecord, wipedRecord, clear, if_true]
    rw [same]; rfl
  · rw [if_neg clear, if_neg (show ¬ (clearedRecord c (s.record x)).standing = .clear from clear), setRecord_setRecord]
    have same : ({ clearedRecord c (s.record x) with standing := .clear, cause := some .replacement } : BoardRecord) =
        wipedRecord c (s.record x) := by simp only [clearedRecord, wipedRecord, clear, if_false]
    rw [same]; rfl

/-- Settles O38: the entry cleared, the board wiped, the digest compared; then the content and the first count. -/
theorem lapsedSlotIsReplaced : Obligations.LapsedSlotIsReplaced := by
  intro s c i d hd formed quiet takes hc babble tables low high peer known other lapsed e r matched afresh wiped entered posted cleared
    compared taken
  have hx : isSlot d.slot = true := (isSlot_iff _).2 ⟨low, high⟩
  have length : (waitsForIdle s).rcv.roster.length = 24 := tables.2
  let base (m : Bool) : State := ((((waitsForIdle s).setEntry d.slot (freshEntry d.serial d.role m e.conflictSeen)).setRecord d.slot
    wiped).setAccusations (s.eng.accusations.filter fun a => decide (a.accuser ≠ d.slot ∧ a.accused ≠ d.slot))).post
      (.replaced d.slot e.serial d.serial)
  let board (m : Bool) : State := if r.standing = .clear then base m else (base m).post (.standing d.slot r.standing .clear .replacement)
  have base_eq (m m' : Bool) : (base m).setEntry d.slot (freshEntry d.serial d.role m' e.conflictSeen) = base m' := by
    simp only [base, post_setEntry]
    refine congrArg (State.post · _) ?_
    exact congrArg (fun t : State => (t.setRecord d.slot wiped).setAccusations _) (setEntry_setEntry ..)
  have board_eq (m m' : Bool) : (board m).setEntry d.slot (freshEntry d.serial d.role m' e.conflictSeen) = board m' := by
    simp only [board]
    split
    · exact base_eq m m'
    · rw [post_setEntry, base_eq]
  have read (m : Bool) : (board m).entry d.slot = freshEntry d.serial d.role m e.conflictSeen := by
    have plain : (base m).entry d.slot = freshEntry d.serial d.role m e.conflictSeen :=
      (State.post_entry ..).trans (State.entry_setEntry_same (waitsForIdle s) length _ hx _)
    simp only [board]
    split
    · exact plain
    · rw [State.post_entry, plain]
  have ctl (m : Bool) : (board m).ctl = s.ctl := by simp only [board, base]; split <;> simp [waitsForIdle]
  have replaced : (((waitsForIdle s).setEntry d.slot (changedEntry e d.serial d.role)).post (.replaced d.slot e.serial d.serial)).replaceBoard
      c d.slot = board e.matched := by
    rw [replaceBoard_eq (by simpa [waitsForIdle] using tables.1) hx]
    simp only [State.post_record, State.post_eng, post_setRecord, post_setAccusations]
    rfl
  have digested : (board e.matched).compareDigest d.slot d.digest = compared := by
    rw [compareDigest_of_entry (read _), ctl]
    by_cases same : e.matched = matched
    · simp only [compared, if_pos same]
      exact (if_pos same).trans (by rw [same]; rfl)
    · simp only [compared, if_neg same]
      exact (if_neg same).trans (congrArg (State.post · _) (board_eq _ matched))
  rw [exec_peer hd formed quiet takes hc hx peer, if_neg known, if_neg other, if_pos lapsed]
  have counted : taken.countAccepted c d.slot = taken.setEntry d.slot { taken.entry d.slot with accepted := 1 } := by
    have tables_board : (board matched).rcv.roster.length = 24 := by
      simp only [board, base]; split <;> simpa [waitsForIdle] using tables.2
    have compared_rcv : compared.rcv = (board matched).rcv := by
      simp only [compared]; split
      · rfl
      · exact State.post_rcv ..
    refine countAccepted_of_cleared babble ?_
    rw [contentTaken_accepted (by rw [compared_rcv, tables_board]) hx, State.entry, compared_rcv]
    exact congrArg RosterEntry.accepted (read matched)
  have whole : (waitsForIdle s).replacement c d.slot d.serial d.role d.digest (viewOf d) = taken.countAccepted c d.slot := by
    refine congrArg (State.countAccepted c d.slot) ?_
    rw [takeView_viewOf]
    exact congrArg (contentTaken c d) ((congrArg (State.compareDigest d.slot d.digest) replaced).trans digested)
  rw [whole, counted]

/-- A step that at most posts notices: entries are read and written through it. -/
structure PostsOnly (w : State → State) : Prop where
  rcv : ∀ u, (w u).rcv = u.rcv
  ctl : ∀ u, (w u).ctl = u.ctl
  setEntry : ∀ u x e, (w u).setEntry x e = w (u.setEntry x e)

theorem PostsOnly.id : PostsOnly (fun u => u) := ⟨fun _ => rfl, fun _ => rfl, fun _ _ _ => rfl⟩

theorem PostsOnly.unless (p : Prop) [Decidable p] (b : NoticeBody) : PostsOnly (fun u => if p then u else u.post b) := by
  by_cases h : p
  · simpa only [if_pos h] using PostsOnly.id
  · simpa only [if_neg h] using ⟨fun u => u.post_rcv b, fun u => u.post_ctl b, fun u x e => post_setEntry u b x e⟩

theorem PostsOnly.entry {w : State → State} (h : PostsOnly w) (u : State) (x : Nat) : (w u).entry x = u.entry x := by
  rw [State.entry, h.rcv]; rfl

/-- Settles O39: the smaller serial refused; the greater switched, whichever of the two notices comes first. -/
theorem peerSlotConflictIsSettled : Obligations.PeerSlotConflictIsSettled := by
  intro s c i d hd formed quiet takes hc babble tables low high peer known present e matched
  have hx : isSlot d.slot = true := (isSlot_iff _).2 ⟨low, high⟩
  have length : (waitsForIdle s).rcv.roster.length = 24 := tables.2
  rw [exec_peer hd formed quiet takes hc hx peer, if_neg known]
  have live : ¬ (s.entry d.slot).presence = .lapsed := by rw [present]; simp
  refine ⟨fun smaller seen => ?_, fun smaller unseen => ?_, fun greater => ⟨Config.conflictNoticeFirst s.choices, ?_⟩⟩
  · rw [if_neg fun same => by rw [same] at smaller; omega, if_neg live, if_neg (Nat.lt_asymm smaller)]
    exact congrArg Host.Outcome.next (if_pos seen)
  · rw [if_neg fun same => by rw [same] at smaller; omega, if_neg live, if_neg (Nat.lt_asymm smaller)]
    exact congrArg Host.Outcome.next (if_neg (Bool.eq_false_iff.1 unseen))
  · intro afresh chosen entered conflict compare taken
    rw [if_neg fun same => by rw [same] at greater; omega, if_neg live, if_pos greater]
    let base (m seen : Bool) : State := chosen.setEntry d.slot (freshEntry d.serial d.role m seen)
    have read (m seen : Bool) : (base m seen).entry d.slot = freshEntry d.serial d.role m seen :=
      State.entry_setEntry_same chosen length _ hx _
    have base_eq (m seen m' seen' : Bool) : (base m seen).setEntry d.slot (freshEntry d.serial d.role m' seen') = base m' seen' :=
      setEntry_setEntry ..
    have conflicts {w : State → State} (hw : PostsOnly w) (m : Bool) :
        (w (base m e.conflictSeen)).noteConflict d.slot d.serial (.serial e.serial) = conflict (w (base m true)) := by
      rw [noteConflict_of_entry ((hw.entry ..).trans (read ..))]
      by_cases seen : e.conflictSeen = true
      · exact (if_pos seen).trans ((congrArg (fun b => w (base m b)) seen).trans (if_pos seen).symm)
      · exact (if_neg seen).trans ((congrArg (State.post · _) ((hw.setEntry ..).trans (congrArg w (base_eq ..)))).trans (if_neg seen).symm)
    have compares {w : State → State} (hw : PostsOnly w) (seen : Bool) :
        (w (base e.matched seen)).compareDigest d.slot d.digest = compare (w (base matched seen)) := by
      rw [compareDigest_of_entry ((hw.entry ..).trans (read ..)), hw.ctl]
      by_cases same : e.matched = matched
      · exact (if_pos same).trans ((congrArg (fun b => w (base b seen)) same).trans (if_pos same).symm)
      · exact (if_neg same).trans ((congrArg (State.post · _) ((hw.setEntry ..).trans (congrArg w (base_eq ..)))).trans (if_neg same).symm)
    have posts_conflict : PostsOnly conflict := .unless _ _
    have posts_compare : PostsOnly compare := .unless _ _
    have settled : (if Config.conflictNoticeFirst s.choices = true then
        ((base e.matched e.conflictSeen).noteConflict d.slot d.serial (.serial e.serial)).compareDigest d.slot d.digest
      else ((base e.matched e.conflictSeen).compareDigest d.slot d.digest).noteConflict d.slot d.serial (.serial e.serial)) =
        if Config.conflictNoticeFirst s.choices = true then compare (conflict entered) else conflict (compare entered) := by
      refine ite_congr rfl (fun _ => ?_) fun _ => ?_
      · exact (congrArg (State.compareDigest d.slot d.digest) (conflicts .id e.matched)).trans (compares posts_conflict true)
      · exact (congrArg (State.noteConflict d.slot d.serial (.serial e.serial)) (compares .id e.conflictSeen)).trans
          (conflicts posts_compare matched)
    have switched : (waitsForIdle s).switchStation c d.slot d.serial d.role d.digest (viewOf d) = taken.countAccepted c d.slot := by
      refine congrArg (State.countAccepted c d.slot) ?_
      rw [takeView_viewOf]
      exact congrArg (contentTaken c d) settled
    have entered_rcv : (if Config.conflictNoticeFirst s.choices = true then compare (conflict entered)
        else conflict (compare entered)).rcv = entered.rcv := by
      split
      · rw [posts_compare.rcv, posts_conflict.rcv]
      · rw [posts_conflict.rcv, posts_compare.rcv]
    have cleared : (taken.entry d.slot).accepted = 0 := by
      rw [contentTaken_accepted (by rw [entered_rcv]; simpa [entered, chosen] using length) hx, State.entry, entered_rcv]
      exact congrArg RosterEntry.accepted (read matched true)
    rw [switched, countAccepted_of_cleared babble cleared]

/-! ### Notes that bear the own slot -/

theorem ownCondemned_congr {t : State} (ctl : t.ctl = s.ctl) (eng : t.eng = s.eng) : t.ownCondemned = s.ownCondemned := by
  simp only [State.ownCondemned, State.ownSlot, State.record, ctl, eng]; rfl

/-- Settles O40: by the serial against the own one, and by the station's state. -/
theorem ownSlotConflictIsHandled : Obligations.OwnSlotConflictIsHandled := by
  intro s c quiet takes hc tables low high own first
  have hown : isSlot own = true := (isSlot_iff _).2 ⟨low, high⟩
  have noted (kept : Word) (refused : Refused) : (waitsForIdle s).noteConflict own kept refused = first kept refused := rfl
  have first_ctl (kept : Word) (refused : Refused) : (first kept refused).ctl = s.ctl := by
    simp only [first]; split <;> simp [waitsForIdle]
  have first_xmt (kept : Word) (refused : Refused) : (first kept refused).xmt = s.xmt := by
    simp only [first]; split <;> simp [waitsForIdle]
  have first_eng (kept : Word) (refused : Refused) : (first kept refused).eng = s.eng := by
    simp only [first]; split <;> simp [waitsForIdle]
  refine ⟨fun i d hd formed bears => ?_, fun a formed bears => ?_, fun b bears => ?_⟩
  · intro lost muted
    have step : exec i s = .next ((waitsForIdle s).ownSlotIdentity c d.serial) := by
      rw [exec_identity hd formed quiet takes hc, if_neg (by rw [bears]; simp [hown]), if_pos bears]
    rw [step]
    have muted_eq : lost.muted (.slotConflict d.serial) = muted := by
      simp only [State.muted, lost, muted, first_ctl, first_xmt]; rfl
    have condemned_iff : lost.ownCondemned = true ↔ (s.record own).standing = .condemned := by
      rw [ownCondemned_congr (first_ctl ..) (first_eng ..), ownCondemned_iff]; exact and_iff_right hown
    refine ⟨fun same => ?_, fun smaller => ?_, fun greater => ?_⟩
    · exact congrArg Host.Outcome.next (if_pos same)
    · exact congrArg Host.Outcome.next ((if_neg fun same => by rw [same] at smaller; exact Nat.lt_irrefl _ smaller).trans (if_pos smaller))
    · have loses : (waitsForIdle s).ownSlotIdentity c d.serial = lost.loseConflict c d.serial :=
        (if_neg fun same => by rw [same] at greater; exact Nat.lt_irrefl _ greater).trans (if_neg (Nat.lt_asymm greater))
      have station : lost.ctl.station = s.ctl.station := by rw [first_ctl]
      rw [loses, State.loseConflict, station]
      refine ⟨fun live => ?_, fun enrolling calm => ?_, fun h enrolling held bad => ?_, fun r h => by rw [h]⟩
      · have untriggered : lost.enterMute c (.slotConflict d.serial) = muted :=
          (enterMute_of_no_trigger _ fun e => by rw [station] at e; rw [e] at live; simp at live).trans muted_eq
        obtain h | h := live <;> rw [h] <;> exact congrArg Host.Outcome.next untriggered
      · rw [enrolling]
        refine congrArg Host.Outcome.next ((enterMute_of_no_trigger _ fun _ => ?_).trans muted_eq)
        rw [first_ctl]
        exact calm.imp_right fun good => Bool.eq_false_iff.2 fun e => good (condemned_iff.1 e)
      · rw [enrolling]
        exact congrArg Host.Outcome.next ((enterMute_of_trigger (station.trans enrolling) (by rw [first_ctl, held])
          (condemned_iff.2 bad) _).trans (by rw [muted_eq]))
  · refine (exec_receiveOf quiet (.accuse a)).trans (congrArg Host.Outcome.next ((takeNote_accuse takes formed).trans ?_))
    unfold State.takeAccuse
    rw [show (waitsForIdle s).ctl.config = some c from hc]
    exact (if_neg (by rw [bears]; simp [hown])).trans (if_pos bears)
  · refine (exec_receiveOf quiet (.rebut b)).trans (congrArg Host.Outcome.next ((takeNote_rebut takes b).trans ?_))
    unfold State.takeRebutNote
    rw [show (waitsForIdle s).ctl.config = some c from hc]
    exact (if_neg (by rw [bears]; simp [hown])).trans (if_pos bears)

/-! ### REBUT -/

theorem acceptsFinding_iff (s : State) {x : Nat} (tag : Half) (seq : Byte) :
    s.acceptsFinding x tag seq = true ↔ accepts s x tag seq := by
  simp only [State.acceptsFinding, State.tainted, Bool.and_eq_true, Bool.not_eq_true', Bool.or_eq_false_iff, decide_eq_true_eq,
    decide_eq_false_iff_not, and_assoc]
  exact Iff.rfl

theorem takeRebut_of_slots {x a : Nat} (hx : isSlot x = true) (ha : isSlot a = true) (other : x ≠ s.ownSlot) (t : Half) (k : AccKind) :
    s.takeRebut c x a t k = (((if a = s.ownSlot then s.post (.path a x t k) else s).setAccusations
      (s.eng.accusations.filter fun f => decide (¬ (f.accuser = a ∧ f.accused = x ∧ f.load = .tagged t)))).applyAndEvaluate c x a
        .rebutted 1) := by
  have own : (s.ownSlot = a ∨ s.ownSlot = x) ↔ a = s.ownSlot := ⟨fun h => h.elim Eq.symm fun h => absurd h.symm other, fun h => .inl h.symm⟩
  have kept : (fun e => !isTagged a x t e) = fun f => decide (¬ (f.accuser = a ∧ f.accused = x ∧ f.load = .tagged t)) := by
    funext f; rw [Bool.eq_iff_iff, Bool.not_eq_true', decide_eq_true_iff, ← isTagged_iff, Bool.not_eq_true]
  have list : (if a = s.ownSlot then s.post (.path a x t k) else s).eng.accusations = s.eng.accusations := by split <;> simp
  unfold State.takeRebut
  rw [if_pos (by simp [hx, ha])]
  simp only [own, list, kept]

/-- Settles O42: by check 5 and by the accuser named. -/
theorem rebutIsTaken : Obligations.RebutIsTaken := by
  intro s c n quiet takes hc tables low high peer x a e sequenced
  have hx : isSlot x = true := (isSlot_iff _).2 ⟨low, high⟩
  have step : exec (.receiveRebut n) s = .next (if (waitsForIdle s).acceptsFinding x n.serialTag n.seq = true
      then (waitsForIdle s).acceptRebut c n else waitsForIdle s) := by
    refine (exec_receiveOf quiet (.rebut n)).trans (congrArg Host.Outcome.next ((takeNote_rebut takes n).trans ?_))
    unfold State.takeRebutNote
    rw [show (waitsForIdle s).ctl.config = some c from hc]
    exact (if_neg (by simp [x] at hx; simp [hx])).trans (if_neg peer)
  have accepts_iff : (waitsForIdle s).acceptsFinding x n.serialTag n.seq = true ↔ accepts s x n.serialTag n.seq := acceptsFinding_iff _ _ _
  rw [step]
  refine ⟨fun discarded => ?_, fun accepted => ⟨fun off => ?_, fun alow ahigh => ?_⟩⟩
  · rw [if_neg fun h => discarded (accepts_iff.1 h)]
  · rw [if_pos (accepts_iff.2 accepted)]
    have off : isSlot a = false := Bool.eq_false_iff.2 fun h => by have := (isSlot_iff a).1 h; omega
    have nothing : sequenced.takeRebut c x a n.tag n.kind = sequenced := if_neg (by simp [off])
    exact congrArg (fun t : State => Host.Outcome.next (t.countAccepted c x)) nothing
  · rw [if_pos (accepts_iff.2 accepted)]
    intro noticed
    have ha : isSlot a = true := (isSlot_iff _).2 ⟨alow, ahigh⟩
    exact congrArg (fun t : State => Host.Outcome.next (t.countAccepted c x)) (takeRebut_of_slots (s := sequenced) hx ha peer n.tag n.kind)

end Sys2Proof.Machine
end

section
/-! Reception of ACCUSE as the statements give it: the run of additions, lookups and the count (chapters 2, 4 and 8). -/

namespace Sys2Proof.Machine

open Sys2Proof.Safety

variable {s : State} {c : ConfigRecord}

/-! ### Tags without repeats -/

theorem dedup_concat (l : List Half) (t : Half) : (l ++ [t]).dedup = (l.dedup.filter fun u => decide (u ≠ t)) ++ [t] := by
  induction l with
  | nil => rfl
  | cons u rest ih =>
    rw [List.cons_append, List.dedup_cons, List.dedup_cons, ih]
    by_cases again : u ∈ rest
    · rw [if_pos (List.mem_append_left _ again), if_pos again]
    · rw [if_neg again]
      by_cases last : u = t
      · subst last
        rw [if_pos (by simp), List.filter_cons_of_neg (by simp)]
      · rw [if_neg (by simp [again, last]), List.filter_cons_of_pos (by simp [last]), List.cons_append]

/-- The tags that have not been seen, in the order of their first places. -/
theorem distinctTags_eq_filter (seen tags : List Half) :
    distinctTags seen tags = tags.reverse.dedup.reverse.filter fun t => decide (t ∉ seen) := by
  induction tags generalizing seen with
  | nil => rfl
  | cons t rest ih =>
    rw [distinctTags, List.reverse_cons, dedup_concat, List.reverse_append, List.reverse_singleton, List.singleton_append,
      ← List.filter_reverse, ih, ih]
    by_cases again : t ∈ seen
    · rw [if_pos again, List.filter_cons_of_neg (by simpa using again), List.filter_filter]
      refine List.filter_congr fun u _ => ?_
      by_cases same : u = t
      · simp [same, again]
      · simp [same]
    · rw [if_neg again, List.filter_cons_of_pos (by simpa using again), List.filter_filter]
      refine congrArg (t :: ·) (List.filter_congr fun u _ => ?_)
      simp [Bool.and_comm]

theorem distinctTags_eq_dedup (tags : List Half) : distinctTags [] tags = tags.reverse.dedup.reverse := by
  rw [distinctTags_eq_filter]; simp

/-! ### Requests carried out -/

theorem carryOut_trk (c : ConfigRecord) (r : Request) (s : State) : (s.carryOut c r).trk = s.trk := by
  cases r with
  | addTagged x a k t => exact (addTagged_frame c x a k t s).trk
  | addSurplus x a k n => exact (addSurplus_frame c x a k n s).trk
  | lookup a k t => exact (lookupAndRebut_frame c a k t s).trk
  | count x => obtain ⟨_, e⟩ | ⟨_, e⟩ := countAccepted_cases c x s <;> rw [State.carryOut, e]
               · rfl
               · exact (applyAndEvaluate_frame ..).trk

theorem carryOutAll_trk (c : ConfigRecord) (run : List Request) (s : State) : (s.carryOutAll c run).trk = s.trk := by
  induction run generalizing s with
  | nil => rfl
  | cons r rest ih => exact (ih _).trans (carryOut_trk c r s)

/-- Requests that change nothing. -/
theorem carryOutAll_of_fixed {run : List Request} (fixed : ∀ r ∈ run, s.carryOut c r = s) : s.carryOutAll c run = s := by
  induction run with
  | nil => rfl
  | cons r rest ih =>
    have rest_fixed := ih fun q hq => fixed q (List.mem_cons_of_mem r hq)
    rw [State.carryOutAll, List.foldl_cons, fixed r List.mem_cons_self]
    exact rest_fixed

/-- Additions of tags that the list does not hold, where it has room. -/
theorem carryOutAll_addTagged {x a : Nat} (hx : isSlot x = true) (ha : isSlot a = true) (k : AccKind) {tags : List Half}
    (distinct : tags.Nodup) {s : State} (room : s.eng.accusations.length + tags.length ≤ 48)
    (absent : ∀ t ∈ tags, ∀ f ∈ s.eng.accusations, isTagged x a t f = false) :
    s.carryOutAll c (tags.map (.addTagged x a k)) =
      s.setAccusations (s.eng.accusations ++ tags.map fun t => ⟨x, a, k, .tagged t, s.evidenceEpoch⟩) := by
  induction tags generalizing s with
  | nil => simp [State.carryOutAll, State.setAccusations]
  | cons t rest ih =>
    obtain ⟨fresh, distinct⟩ := List.nodup_cons.1 distinct
    rw [List.length_cons] at room
    let t1 := s.setAccusations (s.eng.accusations ++ [⟨x, a, k, .tagged t, s.evidenceEpoch⟩])
    have first : s.carryOut c (.addTagged x a k t) = t1 := by
      rw [State.carryOut, addTagged_of_slots hx ha, if_neg (by simpa using absent t List.mem_cons_self), appendEntry_of_room (by omega)]
    have others := ih distinct (s := t1) (by simp [t1]; omega) fun u hu f hf => by
      obtain old | new := List.mem_append.1 (show f ∈ s.eng.accusations ++ _ from hf)
      · exact absent u (List.mem_cons_of_mem t hu) f old
      · rw [List.mem_singleton.1 new]
        have other : t ≠ u := fun e => fresh (e ▸ hu)
        simp [isTagged, other]
    rw [List.map_cons, State.carryOutAll, List.foldl_cons, first]
    have epoch : t1.evidenceEpoch = s.evidenceEpoch := rfl
    rw [epoch] at others
    exact others.trans (congrArg s.setAccusations (List.append_assoc ..))

theorem carryOut_addSurplus_of_room {x a : Nat} (hx : isSlot x = true) (ha : isSlot a = true) {k : AccKind} (n : Nat)
    (room : s.eng.accusations.length < 48) (absent : ∀ f ∈ s.eng.accusations, isUntagged x a k f = false) :
    s.carryOut c (.addSurplus x a k n) = s.setAccusations (s.eng.accusations ++ [⟨x, a, k, .untagged n, s.evidenceEpoch⟩]) := by
  rw [State.carryOut, addSurplus_of_slots hx ha, if_neg (by simpa using absent), appendEntry_of_room room]

/-- Additions against no board record change nothing. -/
theorem carryOut_of_off_shelf {x a : Nat} (off : isSlot a = false) (k : AccKind) :
    (∀ t, s.carryOut c (.addTagged x a k t) = s) ∧ ∀ n, s.carryOut c (.addSurplus x a k n) = s :=
  ⟨fun t => if_neg (by simp [off]), fun n => if_neg (by simp [off])⟩

/-- Outside RUNNING, and without a good answer, a lookup changes nothing. -/
theorem carryOut_lookup_of_idle {a : Nat} {t : Half} (h : ¬ (s.ctl.station = .running ∧ lookupAnswer s.trk.answers a t = some true))
    (k : AccKind) : s.carryOut c (.lookup a k t) = s := by
  rw [State.carryOut, lookupAndRebut_eq, if_neg h]

theorem carryOutAll_lookups_of_idle (idle : s.ctl.station ≠ .running) (a : Nat) (k : AccKind) (tags : List Half) :
    s.carryOutAll c (tags.map (.lookup a k)) = s := carryOutAll_of_fixed fun r hr => by
  obtain ⟨t, _, rfl⟩ := List.mem_map.1 hr
  exact carryOut_lookup_of_idle (fun h => idle h.1) k

/-! ### A run begun and settled -/

/-- The requests held back are carried out when the state is settled. -/
theorem settle_holding_rest (hc : s.ctl.config = some c) (quiet : Quiet s) (done held : List Request) :
    ((s.carryOutAll c done).holding held).settle = s.carryOutAll c (done ++ held) := by
  have hc' : ((s.carryOutAll c done).holding held).ctl.config = some c := (carryOutAll_stationFrame c done s).config.trans hc
  have whole_due : (s.carryOutAll c (done ++ held)).due = s.due := carryOutAll_due ..
  have readable : Readable (s.carryOutAll c (done ++ held)) := by
    unfold Readable; rw [carryOutAll_trk, whole_due]; exact quiet.1
  have finished : ((s.carryOutAll c done).holding held).finishRun = s.carryOutAll c (done ++ held) := by
    rw [finishRun_eq hc', holding_due_run, carryOutAll_holding, holding_holding, ← carryOutAll_append, ← quiet.2, ← whole_due,
      holding_self]
  rw [State.settle, finished, finishWorks_of_readable _ readable]

/-- A REBUT queued in the first free slot that may hold it. -/
theorem enqueue_rebut {p : Pool} (free : poolFree s.xmt.buffer .rebut = true ∧ p = .rebut ∨
      poolFree s.xmt.buffer .rebut = false ∧ poolFree s.xmt.buffer .shared = true ∧ p = .shared) (a : Nat) (t : Half) (k : AccKind) :
    s.enqueue (.rebut a t k) = s.setBuffer (s.xmt.buffer ++ [newNote (.rebut a t k) p]) := by
  have place : placeFor s.xmt.buffer .rebut = some p := by
    obtain ⟨own, rfl⟩ | ⟨own, shared, rfl⟩ := free <;> simp [placeFor, *]
  unfold State.enqueue
  rw [show Content.kind (.rebut a t k) = .rebut from rfl, place]

/-- The own REBUT of an accusation takes back its tagged entry. -/
theorem takeRebut_of_own (hown : isSlot s.ownSlot = true) {x : Nat} (hx : isSlot x = true) {t : Half} {k : AccKind}
    {list : List Accusation} {f : Accusation} (added : s.eng.accusations = list ++ [f]) (mine : isTagged x s.ownSlot t f = true)
    (others : ∀ e ∈ list, isTagged x s.ownSlot t e = false) : s.takeRebut c s.ownSlot x t k =
      ((s.setAccusations list).post (.path x s.ownSlot t k)).applyAndEvaluate c s.ownSlot x .rebutted 1 := by
  have kept : s.eng.accusations.filter (fun e => !isTagged x s.ownSlot t e) = list := by
    rw [added, List.filter_append, List.filter_cons_of_neg (by simp [mine]), List.filter_nil, List.append_nil]
    exact List.filter_eq_self.2 fun e he => by rw [others e he]; rfl
  unfold State.takeRebut
  rw [if_pos (by simp [hown, hx]), if_pos (.inr rfl)]
  dsimp only
  rw [State.post_eng, kept, post_setAccusations]

theorem takeNote_accuse_of_peer {n : AccuseNote} (formed : n.wellFormed = true) (takes : takesNotes s) (hc : s.ctl.config = some c)
    (hx : isSlot n.sender.toNat = true) (peer : n.sender.toNat ≠ s.ownSlot) : s.takeNote (.accuse n) =
      if (waitsForIdle s).acceptsFinding n.sender.toNat n.serialTag n.seq = true then (waitsForIdle s).acceptAccuse c n
      else waitsForIdle s := by
  refine (takeNote_accuse takes formed).trans ?_
  unfold State.takeAccuse
  rw [show (waitsForIdle s).ctl.config = some c from hc]
  exact (if_neg (by simp [hx])).trans (if_neg peer)

/-- Settles O41: check 5, the run begun and settled, and its outcome where the list has room. -/
theorem accuseIsTaken : Obligations.AccuseIsTaken := by
  intro s c n formed quiet takes hc tables low high peer x a free answered perform run sequenced begun whole entry
  have hx : isSlot x = true := (isSlot_iff _).2 ⟨low, high⟩
  have carries (u : State) (r : Request) (mine : ∀ accuser k t, r = .lookup accuser k t → accuser = x ∧ k = n.kind) :
      perform u r = u.carryOut c r := by
    cases r with
    | lookup accuser k t =>
      obtain ⟨rfl, rfl⟩ := mine accuser k t rfl
      exact (lookupAndRebut_eq c x n.kind t u).symm
    | addTagged | addSurplus | count => rfl
  have mine : ∀ r ∈ run, ∀ accuser k t, r = .lookup accuser k t → accuser = x ∧ k = n.kind := by
    rintro r hr accuser k t rfl
    obtain ((added | surplus) | looked) | counted : ((_ ∨ _) ∨ _) ∨ _ := by simpa only [run, List.mem_append] using hr
    · obtain ⟨_, _, e⟩ := List.mem_map.1 added; cases e
    · split at surplus
      · cases surplus
      · cases List.mem_singleton.1 surplus
    · split at looked
      · obtain ⟨_, _, e⟩ := List.mem_map.1 looked
        cases e; exact ⟨rfl, rfl⟩
      · cases looked
    · cases List.mem_singleton.1 counted
  have carriesAll (l : List Request) (within : ∀ r ∈ l, r ∈ run) (u : State) : l.foldl perform u = u.carryOutAll c l := by
    induction l generalizing u with
    | nil => rfl
    | cons r rest ih =>
      rw [List.foldl_cons, carries u r (mine r (within r List.mem_cons_self)), ih fun q hq => within q (List.mem_cons_of_mem r hq)]; rfl
  have whole_eq : whole = begun.carryOutAll c run := carriesAll run (fun _ h => h) begun
  have run_eq : accuseRun s.ownSlot n = run := by simp only [accuseRun, distinctTags_eq_dedup]; rfl
  let additions := n.tags.map (Request.addTagged x a n.kind)
  let surplus := if n.surplus = 0 then [] else [Request.addSurplus x a n.kind n.surplus.toNat]
  let lookups := if a = s.ownSlot then n.tags.reverse.dedup.reverse.map (Request.lookup x n.kind) else []
  have whole_parts : whole =
      (((begun.carryOutAll c additions).carryOutAll c surplus).carryOutAll c lookups).countAccepted c x := by
    rw [whole_eq]; simp only [run, carryOutAll_append]; rfl
  have accepts_iff : (waitsForIdle s).acceptsFinding x n.serialTag n.seq = true ↔ accepts s x n.serialTag n.seq := acceptsFinding_iff _ _ _
  have step := (exec_receiveOf quiet (.accuse n)).trans (congrArg Host.Outcome.next (takeNote_accuse_of_peer formed takes hc hx peer))
  refine ⟨fun discarded => ?_, fun accepted => ?_, fun off other => ?_, fun alow ahigh distinct room absent => ?_⟩
  · exact step.trans (congrArg _ (if_neg fun h => discarded (accepts_iff.1 h)))
  · obtain ⟨done, held, t, parts, count, carried, begins⟩ := beginRun_parts c run sequenced
    refine ⟨done, held, { t with due := { t.due with run := held } }, parts, count, ?_, ?_, ?_⟩
    · have accept : (waitsForIdle s).acceptAccuse c n = sequenced.beginRun c run :=
        congrArg (fun l => State.beginRun c l sequenced) run_eq
      exact step.trans (congrArg _ ((if_pos (accepts_iff.2 accepted)).trans (accept.trans begins)))
    · intro u
      have same : t = u := carried.trans (carriesAll done (fun r hr => parts ▸ List.mem_append_left _ hr) begun).symm
      rw [same]
    · have settled := settle_holding_rest (s := begun) (c := c) hc quiet done held
      rw [whole_eq, parts, ← settled, carried]; rfl
  · have off : isSlot a = false := Bool.eq_false_iff.2 fun h => by have := (isSlot_iff a).1 h; omega
    obtain ⟨untagged, uncounted⟩ := carryOut_of_off_shelf (s := begun) (c := c) (x := x) off n.kind
    have first : begun.carryOutAll c additions = begun := carryOutAll_of_fixed fun r hr => by
      obtain ⟨t, _, rfl⟩ := List.mem_map.1 hr; exact untagged t
    have second : begun.carryOutAll c surplus = begun := carryOutAll_of_fixed fun r hr => by
      simp only [surplus] at hr
      split at hr
      · cases hr
      · rw [List.mem_singleton.1 hr]; exact uncounted _
    rw [whole_parts, first, second, show lookups = [] from if_neg other]; rfl
  · have ha : isSlot a = true := (isSlot_iff _).2 ⟨alow, ahigh⟩
    intro added
    have other (t : Half) : ∀ f ∈ s.eng.accusations, isTagged x a t f = false := fun f hf =>
      Bool.eq_false_iff.2 fun e => by obtain ⟨accuser, accused, _⟩ := (isTagged_iff ..).1 e; exact absent f hf ⟨accuser, accused⟩
    have first : begun.carryOutAll c additions = begun.setAccusations (s.eng.accusations ++ n.tags.map fun t => entry (.tagged t)) :=
      carryOutAll_addTagged (s := begun) hx ha n.kind distinct (show s.eng.accusations.length + n.tags.length ≤ 48 by omega)
        fun t _ => other t
    have second : (begun.setAccusations (s.eng.accusations ++ n.tags.map fun t => entry (.tagged t))).carryOutAll c surplus = added := by
      by_cases none : n.surplus = 0
      · simp only [surplus, added, none, if_true, List.append_nil]; rfl
      · simp only [surplus, added, none, if_false]
        refine carryOut_addSurplus_of_room hx ha _ (by simp; omega) fun f hf => ?_
        obtain old | new := List.mem_append.1 (show f ∈ s.eng.accusations ++ _ from hf)
        · exact Bool.eq_false_iff.2 fun e => by obtain ⟨accuser, accused, _⟩ := (isUntagged_iff ..).1 e; exact absent f old ⟨accuser, accused⟩
        · obtain ⟨t, _, rfl⟩ := List.mem_map.1 new; simp [isUntagged, entry]
    have looked : whole = (added.carryOutAll c lookups).countAccepted c x := by rw [whole_parts, first, second]
    refine ⟨fun idle => ?_, fun t own running single unsurplus => ?_⟩
    · have fixed : added.carryOutAll c lookups = added := by
        by_cases own : a = s.ownSlot
        · have station : added.ctl.station ≠ .running := idle.resolve_left fun h => h own
          rw [show lookups = _ from if_pos own]
          exact carryOutAll_lookups_of_idle station ..
        · rw [show lookups = [] from if_neg own]; rfl
      exact looked.trans (congrArg (State.countAccepted c x) fixed)
    · have one : added.carryOutAll c lookups = added.carryOut c (.lookup x n.kind t) := by
        simp only [lookups, own, single, if_true]; rfl
      have added_eq : added = begun.setAccusations (s.eng.accusations ++ [entry (.tagged t)]) := by
        simp only [added, single, unsurplus, if_true]; simp
      have outcome (u : State) (h : added.carryOut c (.lookup x n.kind t) = u) : whole = u.countAccepted c x :=
        looked.trans (congrArg (State.countAccepted c x) (one.trans h))
      refine ⟨fun unanswered => outcome added (carryOut_lookup_of_idle (s := added) (a := x) (t := t) (fun h => unanswered h.2) n.kind), fun good full unshared => outcome _ ?_,
        fun p good free => outcome _ ?_⟩
      · exact (lookupAndRebut_eq ..).trans ((if_pos ⟨running, good⟩).trans (if_neg fun h => h.elim full unshared))
      · have room : poolUse s.xmt.buffer .rebut < poolSize .rebut ∨ poolUse s.xmt.buffer .shared < poolSize .shared :=
          free.elim (fun h => .inl h.1) fun h => .inr h.2.1
        have sent : added.enqueue (.rebut x t n.kind) = added.setBuffer (s.xmt.buffer ++ [newNote (.rebut x t n.kind) p]) :=
          enqueue_rebut (s := added) (free.imp (fun h => ⟨decide_eq_true h.1, h.2⟩)
            fun h => ⟨decide_eq_false h.1, decide_eq_true h.2.1, h.2.2⟩) x t n.kind
        have list : (added.setBuffer (s.xmt.buffer ++ [newNote (.rebut x t n.kind) p])).eng.accusations =
            s.eng.accusations ++ [entry (.tagged t)] := by rw [added_eq]; rfl
        have back := takeRebut_of_own (s := added.setBuffer (s.xmt.buffer ++ [newNote (.rebut x t n.kind) p])) (c := c) (k := n.kind)
          (own ▸ ha) hx list ((isTagged_iff ..).2 ⟨rfl, own, rfl⟩) fun f hf => own ▸ other t f hf
        exact (lookupAndRebut_eq ..).trans ((if_pos ⟨running, good⟩).trans ((if_pos room).trans
          ((congrArg (State.takeRebut c s.ownSlot x t n.kind) sent).trans back)))

end Sys2Proof.Machine
end

section
/-! Resets and the service link as the statements give them (chapters 9, 10 and 11). -/

namespace Sys2Proof.Machine

open Sys2Proof.Safety

variable {s : State} {c : ConfigRecord}

/-! ### Resets -/

/-- Settles O4: every reset is `intoReset`. -/
theorem resetsLeaveTheTables : Obligations.ResetsLeaveTheTables := by
  unfold Obligations.ResetsLeaveTheTables
  intro image s
  exact ⟨rfl, rfl, fun waits => congrArg Host.Outcome.next (if_pos waits),
    fun idle => congrArg Host.Outcome.next (if_neg (Bool.eq_false_iff.1 idle)), rfl, rfl, rfl⟩

theorem strapRole_eq {role : BitVec 2} {r : Role} (h : role.toNat = 0 ∧ r = .front ∨ role.toNat = 1 ∧ r = .auth ∨
    role.toNat = 2 ∧ r = .posting ∨ role.toNat = 3 ∧ r = .gateway) : strapRole role = r := by
  have code (k : Nat) (small : k < 4) (e : role.toNat = k) : role = BitVec.ofNat 2 k :=
    BitVec.eq_of_toNat_eq (by rw [e, BitVec.toNat_ofNat, Nat.mod_eq_of_lt small])
  obtain ⟨e, rfl⟩ | ⟨e, rfl⟩ | ⟨e, rfl⟩ | ⟨e, rfl⟩ := h <;> rw [code _ (by omega) e] <;> rfl

/-- Settles O5: by the slot strap. -/
theorem leaveResetSamplesTheStraps : Obligations.LeaveResetSamplesTheStraps := by
  intro s slot role r tables straps
  have role_eq := strapRole_eq straps
  subst role_eq
  refine ⟨fun out => ?_, fun held low high => ?_, fun held bad => ?_⟩
  · exact congrArg Host.Outcome.next (if_neg (Bool.eq_false_iff.1 out))
  · exact congrArg Host.Outcome.next ((if_pos held).trans (if_pos ((isSlot_iff _).2 ⟨low, high⟩)))
  · exact congrArg Host.Outcome.next ((if_pos held).trans (if_neg fun h => by have := (isSlot_iff _).1 h; omega))

/-! ### When the link is open -/

theorem linkOpen_eq_true (out : s.ctl.inReset = false) (idle : s.lnk.restartOpen = false) : s.linkOpen = true := by
  simp [State.linkOpen, out, idle]

theorem linkOpen_eq_false (h : s.ctl.inReset = true ∨ s.lnk.restartOpen = true) : s.linkOpen = false := by
  obtain h | h := h <;> simp [State.linkOpen, h]

/-! ### CONFIGURE -/

theorem thresholdsOrdered_iff (c : ConfigRecord) : thresholdsOrdered c = true ↔
    c.tClear < c.tWatch ∧ c.tWatch < c.tSuspect ∧ c.tSuspect < c.tCondemn := by simp [thresholdsOrdered, and_assoc]

theorem babbleAllowed_iff (c : ConfigRecord) : babbleAllowed c = true ↔ 2 * c.budget + 2 ≤ c.babble := by simp [babbleAllowed]

theorem acceptConfig_of_empty (c : ConfigRecord) (empty : s.xmt.buffer = []) : s.acceptConfig c =
    { s with ctl := { s.ctl with config := some c, digest := some (digestOf c), msCount := 0, epoch := 0, enrolCount := 0,
                                 monitorArmed := true, station := .enrolling },
             rcv := { s.rcv with idleCount := 0, rxReady := false },
             xmt := { s.xmt with buffer := [newNote (.enrol s.ctl.serial s.ctl.role (digestOf c)) .beacon] } } := by
  unfold State.acceptConfig
  generalize digestOf c = d
  dsimp only
  rw [queueEnrol_eq, if_pos (by simp [empty]), empty]
  rfl

/-- Settles O44: by the length, the station's state and the two tests. -/
theorem configureIsTaken : Obligations.ConfigureIsTaken := by
  intro s record quiet out idle answer c d ordered enrol
  have step : exec (.configure record) s = .next (if record.length < 34 then s.abort else s.takeConfigure (record.take 34)) := by
    rw [exec, execConfigure, settle_of_quiet s quiet, linkOpen_eq_true out idle]; rfl
  have ordered_iff : thresholdsOrdered c = true ↔ ordered := thresholdsOrdered_iff c
  rw [step]
  refine ⟨fun short => by rw [if_pos short]; rfl, fun long => ?_⟩
  rw [if_neg (Nat.not_lt.2 long), State.takeConfigure]
  refine ⟨fun configured => ?_, fun fresh disordered => ?_, fun fresh order babbles => ?_, fun fresh order quietly empty => ?_⟩
  · rw [if_pos configured]; rfl
  · rw [if_neg (not_not.2 fresh), if_pos (by rw [Bool.not_eq_true', Bool.eq_false_iff]; exact mt ordered_iff.1 disordered)]; rfl
  · rw [if_neg (not_not.2 fresh), if_neg (by rw [Bool.not_eq_true', Bool.not_eq_false]; exact ordered_iff.2 order),
      if_pos (by rw [Bool.not_eq_true', Bool.eq_false_iff, Ne, babbleAllowed_iff]; exact Nat.not_le.2 babbles)]; rfl
  · rw [if_neg (not_not.2 fresh), if_neg (by rw [Bool.not_eq_true', Bool.not_eq_false]; exact ordered_iff.2 order),
      if_neg (by rw [Bool.not_eq_true', Bool.not_eq_false, babbleAllowed_iff]; exact quietly), acceptConfig_of_empty _ empty]; rfl

/-! ### READ STATUS -/

theorem flagBit_zero (b : Bool) : flagBit b 0 = if b then 1 else 0 := by cases b <;> rfl

theorem setWidth_eq_ofNat (flags : BitVec 7) : flags.setWidth 8 = BitVec.ofNat 8 flags.toNat :=
  BitVec.eq_of_toNat_eq (by simp)

theorem getLsbD_clearShown (flags shown relatched : BitVec 7) {i : Nat} (hi : i < 7) :
    (clearShown flags shown relatched).getLsbD i = (flags.getLsbD i && (!shown.getLsbD i || relatched.getLsbD i)) := by
  simp [clearShown, hi]

/-- Settles O46: the record field by field, and the flags bit by bit. -/
theorem statusIsRead : Obligations.StatusIsRead := by
  intro s readable b two four codes role fence record
  have settled (run : s.due.run = []) : s.settle = s := settle_of_quiet s ⟨readable, run⟩
  refine ⟨fun out idle => ?_, fun shown run h => ?_, fun run h => ?_⟩
  · have two_eq (h : Half) : halfBytes h = two h.toNat := halfBytes_eq h
    have four_eq : wordBytes s.ctl.serial = four s.ctl.serial.toNat := wordBytes_eq _
    obtain ⟨state_eq, reason_eq⟩ : stationCode s.ctl.station = b codes.1 ∧ stationReason s.ctl.station = b codes.2 := by
      simp only [codes]
      cases s.ctl.station with
      | mute reason => cases reason <;> exact ⟨rfl, rfl⟩
      | unconfigured | enrolling | running | quarantined => exact ⟨rfl, rfl⟩
    have role_eq : roleCode s.ctl.role = b role := by simp only [role]; cases s.ctl.role <;> rfl
    have digest_eq : (s.ctl.digest.getD 0).toNat = match s.ctl.digest with | some d => d.toNat | none => 0 := by
      cases s.ctl.digest <;> rfl
    have record_eq : s.statusRecord = record := by
      rw [State.statusRecord, state_eq, reason_eq, four_eq, role_eq, two_eq, two_eq, digest_eq, flagBit_zero, setWidth_eq_ofNat,
        fenceMap_eq]
      rfl
    rw [exec, execReadStatus, finishWorks_of_readable s readable, linkOpen_eq_true out idle, record_eq]; rfl
  · exact ⟨clearShown s.lnk.flags shown s.lnk.relatched, by simp only [exec, execFlagsByteClocked, settled run, h],
      fun i hi => getLsbD_clearShown _ _ _ hi⟩
  · simp only [exec, execFlagsByteClocked, settled run, h]

/-! ### READ VIEW -/

/-- Without work partway, and between step 2 and the evaluation of step 4, a view reads the state as it stands. -/
theorem finishForView_of_shown (ages : ∀ e ∈ s.trk.oet, e.age < 4) (receiver : s.due.receiver ≤ 1)
    (shown : s.due.evidence ≤ 1 ∨ s.due.evidence = 3 ∨ s.due.evidence = 4) : s.finishForView = s := by
  have evidence : s.finishEvidenceForView = s := by
    unfold State.finishEvidenceForView
    split
    · rw [if_neg (by omega), if_neg (by omega)]
    · rfl
  rw [State.finishForView, finishExpiries_of_quiet s ages, evidence, finishReceiver_of_quiet s receiver]

/-- Within step 2 the rest of that step is carried out. -/
theorem evidenceUpTo_three_of_two (second : s.due.evidence = 2) : s.evidenceUpTo c 3 = (s.setEvidenceDue 3).expireWitnesses c := by
  simp [State.evidenceUpTo, second]

theorem epochsSince_eq (now before : Half) : epochsSince now before = (now.toNat + 65536 - before.toNat) % 65536 := by
  have := before.isLt
  rw [epochsSince, BitVec.toNat_sub]
  omega

theorem viewFlags_eq (m t q s k f : Bool) :
    flagBit m 0 ||| flagBit t 1 ||| flagBit q 2 ||| flagBit s 3 ||| flagBit k 4 ||| flagBit f 5 =
      BitVec.ofNat 8 ((if m = true then 1 else 0) + (if t = true then 2 else 0) + (if q = true then 4 else 0) +
        (if s = true then 8 else 0) + (if k = true then 16 else 0) + (if f = true then 32 else 0)) := by
  revert m t q s k f; decide

theorem numBytes_eq (n : Nat) : numBytes n = [BitVec.ofNat 8 (n / 256), BitVec.ofNat 8 n] := by
  rw [numBytes, halfBytes_eq, BitVec.toNat_ofNat]
  refine List.cons_eq_cons.2 ⟨BitVec.eq_of_toNat_eq ?_, List.cons_eq_cons.2 ⟨BitVec.eq_of_toNat_eq ?_, rfl⟩⟩
  · rw [BitVec.toNat_ofNat, BitVec.toNat_ofNat]; omega
  · rw [BitVec.toNat_ofNat, BitVec.toNat_ofNat]; omega

/-- Settles O47: the record field by field; within step 2 the expiries of that step come first. -/
theorem viewIsRead : Obligations.ViewIsRead := by
  intro s slot ages receiver out idle answer epoch b two four bit x e r presence role standing cause zones flags live records expired shown
  have step (clear : shown) : exec (.readView slot) s = .next (s.respond 0x21
      (if isSlot x = true then [statusOk] ++ s.viewRecord x else [statusBadSlot])) := by
    rw [exec, execReadView, finishForView_of_shown ages receiver clear, linkOpen_eq_true out idle]; rfl
  refine ⟨fun c hc second => ?_, fun clear low high => ?_, fun clear off => ?_⟩
  · have kept : (fun w => !witnessExpired c s.ctl.epoch w) = live c := by
      funext w
      rw [witnessExpired, epochsSince_eq, ← decide_not]
      simp only [Nat.not_le]; rfl
    have upTo : s.evidenceUpTo c 3 = expired c := by
      rw [evidenceUpTo_three_of_two second, State.expireWitnesses, show (s.setEvidenceDue 3).ctl.epoch = s.ctl.epoch from rfl, kept]
      rfl
    have finished : s.finishForView = expired c := by
      have evidence : s.finishEvidenceForView = expired c := by
        unfold State.finishEvidenceForView; rw [hc]; exact (if_pos second).trans upTo
      rw [State.finishForView, finishExpiries_of_quiet s ages, evidence, finishReceiver_of_quiet (expired c) receiver]
    have again : (expired c).finishForView = expired c := finishForView_of_shown ages receiver (.inr (.inl rfl))
    rw [exec, exec, execReadView, execReadView, finished, again]
  · have four_eq : wordBytes e.serial = four e.serial.toNat := wordBytes_eq _
    have presence_eq : presenceCode e.presence = b presence := by simp only [presence]; cases e.presence <;> rfl
    have role_eq : roleCode e.role = b role := by simp only [role]; cases e.role <;> rfl
    have standing_eq : standingCode r.standing = b standing := by simp only [standing]; cases r.standing <;> rfl
    have cause_eq : (r.cause.map causeCode).getD 0 = b cause := by simp only [cause]; rcases r.cause with _ | _ | _ | _ | _ | _ <;> rfl
    have short_eq : flagBit r.quorumShort 0 = b (bit r.quorumShort 1) := by simp only [bit]; cases r.quorumShort <;> rfl
    have key_eq : s.shownKey x = zones.1 := by simp only [State.shownKey, zones]; cases s.ctl.config <;> rfl
    have zones_eq : s.shownZones x = zones.2 := by simp only [State.shownZones, zones]; cases s.ctl.config <;> rfl
    have record_eq : s.viewRecord x = [slot, b presence] ++ four e.serial.toNat ++ [b role, b flags, b standing, b cause] ++
        two r.score ++ [b r.probation, b (bit r.quorumShort 1), b zones.1, b zones.2, b r.witnesses.length] ++
        r.witnesses.flatMap fun w => [b w.slot, b w.key, b ((epoch.toNat + 65536 - w.epoch.toNat) % 65536)] := by
      have view : s.viewRecord x = [byteOf x, presenceCode e.presence] ++ wordBytes e.serial ++ [roleCode e.role,
          flagBit (!e.matched) 0 ||| flagBit (decide (0 < e.mute)) 1 ||| flagBit e.quarantined 2 ||| flagBit e.saturated 3 |||
            flagBit e.condemnsMe 4 ||| flagBit e.conflictSeen 5, standingCode r.standing, (r.cause.map causeCode).getD 0] ++
          numBytes r.score ++ [byteOf r.probation, flagBit r.quorumShort 0, byteOf (s.shownKey x), byteOf (s.shownZones x),
            byteOf r.witnesses.length] ++
          r.witnesses.flatMap fun w => [byteOf w.slot, byteOf w.key, byteOf (epochsSince s.evidenceEpoch w.epoch)] := rfl
      rw [view, byteOf_toNat, presence_eq, four_eq, role_eq, viewFlags_eq, standing_eq, cause_eq, numBytes_eq, short_eq, key_eq, zones_eq]
      simp only [epochsSince_eq]
      rfl
    rw [step clear, if_pos ((isSlot_iff _).2 ⟨low, high⟩), record_eq]; rfl
  · rw [step clear, if_neg fun h => by have := (isSlot_iff _).1 h; omega]; rfl

end Sys2Proof.Machine
end

section
/-! The notices, RELEASE and the link's transactions as the statements give them (chapters 3, 5, 10 and 11). -/

namespace Sys2Proof.Machine

open Sys2Proof.Safety

variable {s : State} {c : ConfigRecord}

/-! ### Notices -/

/-- Settles O48: by the queue and the open response. -/
theorem noticesAreTaken : Obligations.NoticesAreTaken := by
  intro s quiet answer
  have taken (out : s.ctl.inReset = false) (idle : s.lnk.restartOpen = false) : s.settle = s ∧ s.linkOpen = true :=
    ⟨settle_of_quiet s quiet, linkOpen_eq_true out idle⟩
  have settled := settle_of_quiet s quiet
  refine ⟨fun out idle empty => ?_, fun head rest out idle queue => ?_, fun head rest opened queue => ⟨?_, rfl⟩, fun closed => ?_⟩
  · simp only [exec, execTakeNotice, settled, linkOpen_eq_true out idle, empty]; rfl
  · simp only [exec, execTakeNotice, settled, linkOpen_eq_true out idle, queue]; rfl
  · simp only [exec, execNoticeRemoved, settled, opened, queue]; rfl
  · simp only [exec, execNoticeRemoved, settled, closed, Bool.false_eq_true, if_false]

/-- The fields of a notice fill at most ten bytes. -/
theorem length_noticeFields (body : NoticeBody) : (noticeFields body).2.length ≤ 10 := by
  rcases body with _ | _ | _ | _ | ⟨_, _, _ | _⟩ | _ | _ | ⟨_ | _ | _ | _, _, _⟩ | _ <;> simp [noticeFields, wordBytes, halfBytes]

theorem length_noticeBytes (n : Notice) : (noticeBytes n).length = 14 := by
  have := length_noticeFields n.body
  simp [noticeBytes, halfBytes]; omega

/-- Settles O49: each kind by its fields. -/
theorem noticeRecordsAreLaidOut : Obligations.NoticeRecordsAreLaidOut := by
  intro epoch overrun bytes b two four record standing presence station kind latched
  have two_eq (h : Half) : halfBytes h = two h.toNat := halfBytes_eq h
  have four_eq (w : Word) : wordBytes w = four w.toNat := wordBytes_eq w
  have standing_eq (st : Standing) : standingCode st = b (standing st) := by cases st <;> rfl
  have presence_eq (p : Presence) : presenceCode p = b (presence p) := by cases p <;> rfl
  have kind_eq (k : AccKind) : accKindCode k = b (kind k) := by cases k <;> rfl
  have laid (body : NoticeBody) (code : Nat) (fields : List Byte) (h : noticeFields body = (b code, fields)) :
      bytes body = record code fields := by
    simp only [bytes, noticeBytes, h, two_eq]
    simp only [record, flagBit_zero]; rfl
  have muted (p : Option Station) (l : Bool) (d : MuteDetail) : noticeFields (.muted d p l) = (8, [reasonCode d.reason, b (station p),
      b (latched l)] ++ match d with
        | .badStrap strap => [byteOf strap.toNat]
        | .slotConflict kept => wordBytes kept
        | .configMinority m n => [byteOf m, byteOf n]
        | .clockFault => []) := by
    have previous_eq : (match p with | some st => stationCode st | none => 0xFF) = b (station p) := by
      rcases p with _ | _ | _ | _ | _ | _ <;> rfl
    have latch_eq : (if l then 1 else 0 : Byte) = b (latched l) := by cases l <;> rfl
    rw [← previous_eq, ← latch_eq]
    cases d <;> rfl
  refine ⟨fun body => length_noticeBytes _, fun x old new cause => laid _ _ _ ?_, fun x old new => laid _ _ _ ?_,
    fun x old new => laid _ _ _ ?_, fun x matched digest => laid _ _ _ ?_, fun x kept refused => laid _ _ _ ?_,
    fun x kept tag => laid _ _ _ ?_, fun a x tag k => laid _ _ _ ?_, fun event trigger latch zones => laid _ _ _ ?_,
    fun strap p l => laid _ _ _ ?_, fun kept p l => laid _ _ _ ?_, fun m n p l => laid _ _ _ ?_, fun p l => laid _ _ _ ?_,
    fun k seq => laid _ _ _ ?_⟩
  · rw [noticeFields, standing_eq, standing_eq]; cases cause <;> rfl
  · rw [noticeFields, presence_eq, presence_eq]; rfl
  · rw [noticeFields, four_eq, four_eq]; rfl
  · rw [noticeFields, two_eq]; cases matched <;> rfl
  · rw [noticeFields, four_eq, four_eq]; rfl
  · rw [noticeFields, four_eq, two_eq]; rfl
  · rw [noticeFields, two_eq, kind_eq]; rfl
  · cases event <;> cases trigger <;> cases latch <;> rfl
  · rw [muted p l]; rfl
  · exact (muted p l _).trans (by rw [← four_eq]; rfl)
  · rw [muted p l]; rfl
  · rw [muted p l]; rfl
  · cases k <;> rfl

/-! ### RELEASE -/

/-- The board record of a slot that has been released. -/
def releasedRecord (c : ConfigRecord) (cause : Option Cause) : BoardRecord :=
  { score := 0, standing := .clear, cause := cause, probation := c.probation, quorumShort := false, witnesses := [] }

theorem clearRecord_of_condemned (length : s.eng.records.length = 24) {x : Nat} (hx : isSlot x = true)
    (bad : (s.record x).standing = .condemned) (cause : Cause) : s.clearRecord c x cause =
      (s.setRecord x (releasedRecord c (some cause))).post (.standing x .condemned .clear cause) := by
  have reset : (s.setRecord x (clearedRecord c (s.record x))).record x = clearedRecord c (s.record x) :=
    State.record_setRecord_same s length x hx _
  have standing : (clearedRecord c (s.record x)).standing = .condemned := bad
  rw [State.clearRecord, State.changeStanding, reset, standing, if_neg (by simp), setRecord_setRecord]
  rfl

theorem exec_release (quiet : Quiet s) (out : s.ctl.inReset = false) (idle : s.lnk.restartOpen = false) (slot : Byte) :
    exec (.release slot) s = .next (s.takeRelease slot.toNat) := by
  rw [exec, execRelease, settle_of_quiet s quiet, linkOpen_eq_true out idle]; rfl

/-- What the release of the own slot makes of the station and the roster (R95). -/
def State.forgiven (s : State) : State :=
  { s with ctl := { s.ctl with station := .running, latch := false },
           rcv := { s.rcv with roster := s.rcv.roster.map fun e => { e with condemnsMe := false } } }

theorem post_forgiven (s : State) (b : NoticeBody) : (s.post b).forgiven = s.forgiven.post b := by
  unfold State.post State.forgiven; dsimp only; split <;> rfl

/-- The state with the latch clear. -/
def State.unlatched (s : State) : State := { s with ctl := { s.ctl with latch := false } }

theorem post_unlatched (s : State) (b : NoticeBody) : s.unlatched.post b = (s.post b).unlatched := by
  unfold State.post State.unlatched; dsimp only; split <;> rfl

theorem changeStanding_unlatched (s : State) (x : Nat) (new : Standing) (k : Cause) :
    s.unlatched.changeStanding x new k = (s.changeStanding x new k).unlatched := by
  refine Eq.trans ?_ (apply_ite State.unlatched _ _ _).symm
  exact ite_congr rfl (fun _ => rfl) fun _ => post_unlatched (s.setRecord x { s.record x with standing := new, cause := some k }) _

theorem clearOwnRecord_unlatched (c : ConfigRecord) (s : State) : s.unlatched.clearOwnRecord c = (s.clearOwnRecord c).unlatched := by
  refine Eq.trans ?_ (apply_ite State.unlatched _ _ _).symm
  exact ite_congr rfl (fun _ => changeStanding_unlatched (s.setRecord s.ownSlot (clearedRecord c (s.record s.ownSlot))) _ _ _) fun _ => rfl

theorem releaseOwn_eq (c : ConfigRecord) (s : State) : s.releaseOwn c =
    (((s.dropAgainst s.ownSlot).clearOwnRecord c).forgiven).post (.quarantine .left .release false 0) := by
  have released (t : State) (h : (s.dropAgainst s.ownSlot).unlatched.clearOwnRecord c = t) : s.releaseOwn c =
      ({ t.mapRoster (fun e => { e with condemnsMe := false }) with ctl := { t.ctl with station := .running } } : State).post
        (.quarantine .left .release false 0) := by subst h; rfl
  exact released _ (clearOwnRecord_unlatched c (s.dropAgainst s.ownSlot))

theorem clearOwnRecord_of_condemned (length : s.eng.records.length = 24) (hx : isSlot s.ownSlot = true)
    (bad : (s.record s.ownSlot).standing = .condemned) : s.clearOwnRecord c =
      (s.setRecord s.ownSlot (releasedRecord c (some .release))).post (.standing s.ownSlot .condemned .clear .release) :=
  (if_pos bad).trans (clearRecord_of_condemned length hx bad .release)

theorem clearOwnRecord_of_sound (good : (s.record s.ownSlot).standing ≠ .condemned) : s.clearOwnRecord c =
    s.setRecord s.ownSlot (releasedRecord c (s.record s.ownSlot).cause) := if_neg good

theorem takePeerRelease_of_sound {x : Nat} (h : (s.record x).standing ≠ .condemned ∨ s.ctl.config = none) :
    s.takePeerRelease x = (s, statusNotCondemned) := by
  unfold State.takePeerRelease
  cases hc : s.ctl.config with
  | none => rfl
  | some c => exact if_neg (h.resolve_right fun none => by rw [hc] at none; cases none)

/-- Settles O50: by the slot, the record and the station's state. -/
theorem releaseIsTaken : Obligations.ReleaseIsTaken := by
  intro s slot quiet out idle tables answer x r kept wiped
  have on (low : 1 ≤ x) (high : x ≤ 24) : isSlot x = true := (isSlot_iff x).2 ⟨low, high⟩
  have peer (low : 1 ≤ x) (high : x ≤ 24) (other : x ≠ s.ownSlot) :
      s.takeRelease x = (s.takePeerRelease x).1.respond 0x40 [(s.takePeerRelease x).2] := by
    rw [State.takeRelease, if_neg (by simp [on low high]), if_neg other]
  have own (low : 1 ≤ x) (high : x ≤ 24) (mine : x = s.ownSlot) :
      s.takeRelease x = s.takeOwnRelease.1.respond 0x40 [s.takeOwnRelease.2] := by
    rw [State.takeRelease, if_neg (by simp [on low high]), if_pos mine]
  rw [exec_release quiet out idle]
  refine ⟨fun off => ?_, fun c hc low high other bad => ?_, fun low high other good => ?_, fun low high mine => ⟨fun c hc station => ?_,
    fun reason muted => ⟨fun latched => ?_, fun clear => ?_⟩, fun station => ?_⟩⟩
  · exact congrArg Host.Outcome.next (if_pos (by
      rw [Bool.not_eq_true', Bool.eq_false_iff]; exact fun h => by have := (isSlot_iff _).1 h; omega))
  · have released : s.takePeerRelease x = (s.releasePeer c x, statusOk) := by
      simp only [State.takePeerRelease, hc]; exact if_pos bad
    have cleared : s.releasePeer c x = (kept.setRecord x (wiped c (some .release))).post (.standing x .condemned .clear .release) :=
      clearRecord_of_condemned (s := kept) tables.1 (on low high) bad .release
    rw [peer low high other, released, cleared]; rfl
  · rw [peer low high other, takePeerRelease_of_sound good]; rfl
  · intro forgiven
    have released : s.takeOwnRelease = (s.releaseOwn c, statusOk) := by simp only [State.takeOwnRelease, station, hc]
    have dropped : s.dropAgainst s.ownSlot = kept := by simp only [kept, mine]; rfl
    rw [own low high mine, released, releaseOwn_eq, dropped]
    refine ⟨fun bad => ?_, fun good => ?_⟩
    · have cleared := clearOwnRecord_of_condemned (s := kept) (c := c) tables.1 (show isSlot s.ownSlot = true from mine ▸ on low high)
        (show (s.record s.ownSlot).standing = .condemned from mine ▸ bad)
      rw [cleared, post_forgiven, mine]; rfl
    · have cleared := clearOwnRecord_of_sound (s := kept) (c := c) (show (s.record s.ownSlot).standing ≠ .condemned from mine ▸ good)
      rw [cleared]
      simp only [r, mine]; rfl
  · have released : s.takeOwnRelease = (s.clearLatch, statusOk) := by
      simp only [State.takeOwnRelease, muted, latched, if_true]
    rw [own low high mine, released]; rfl
  · have refused : s.takeOwnRelease = (s, statusNotCondemned) := by
      simp only [State.takeOwnRelease, muted, clear, Bool.false_eq_true, if_false]
    rw [own low high mine, refused]; rfl
  · have refused : s.takeOwnRelease = (s, statusNotCondemned) := by
      unfold State.takeOwnRelease
      obtain h | h | h := station <;> rw [h]
    rw [own low high mine, refused]; rfl

/-! ### Transactions -/

theorem commandBytes_iff (command : Byte) : commandBytes.contains command = true ↔
    command.toNat ∈ [0x10, 0x20, 0x21, 0x30, 0x40, 0x7E] := by
  revert command; decide

theorem argumentBytes_of_unlisted {command : Byte} (h : commandBytes.contains command = false) : argumentBytes command = 0 := by
  revert command; decide

theorem commandOf_of_unlisted {command : Byte} (h : commandBytes.contains command = false) (rest : List Byte) :
    commandOf command rest = .unknownCommand command := by
  have other (k : Byte) (listed : commandBytes.contains k = true) : command ≠ k := fun e => by rw [e, listed] at h; cases h
  rw [commandOf, argumentBytes_of_unlisted h, if_neg (Nat.not_lt_zero _), if_neg (other _ (by decide)), if_neg (other _ (by decide)),
    if_neg (other _ (by decide)), if_neg (other _ (by decide)), if_neg (other _ (by decide)), if_neg (other _ (by decide))]

/-- A link that is closed takes no command. -/
theorem exec_of_closed (quiet : Quiet s) (closed : s.ctl.inReset = true ∨ s.lnk.restartOpen = true) :
    (∀ record, exec (.configure record) s = .next s) ∧ exec .readStatus s = .next s ∧ (∀ x, exec (.readView x) s = .next s) ∧
    exec .takeNotice s = .next s ∧ (∀ x, exec (.release x) s = .next s) ∧ exec .restart s = .next s ∧
    (∀ command, exec (.unknownCommand command) s = .next s) ∧ exec .commandAborted s = .next s := by
  have settled := settle_of_quiet s quiet
  have shut := linkOpen_eq_false closed
  have status : s.finishWorks = s := finishWorks_of_readable s quiet.1
  have view : s.finishForView = s := finishForView_of_shown quiet.1.1 quiet.1.2.2 (.inl quiet.1.2.1)
  refine ⟨fun record => ?_, ?_, fun x => ?_, ?_, fun x => ?_, ?_, fun command => ?_, ?_⟩
  · simp only [exec, execConfigure, settled, shut, Bool.not_false, if_true]
  · simp only [exec, execReadStatus, status, shut, Bool.false_eq_true, if_false]
  · simp only [exec, execReadView, view, shut, Bool.false_eq_true, if_false]
  · simp only [exec, execTakeNotice, settled, shut, Bool.false_eq_true, if_false]
  · simp only [exec, execRelease, settled, shut, Bool.false_eq_true, if_false]
  · simp only [exec, execRestart, settled, shut, Bool.false_eq_true, if_false]
  · simp only [exec, execUnknownCommand, settled, shut, Bool.false_eq_true, false_and, if_false]
  · simp only [exec, execCommandAborted, settled, shut, Bool.false_eq_true, if_false]

/-- Settles O51: the bytes of a transaction, MISO by its place, and the commands that change only the response. -/
theorem otherCommandsAreAnswered : Obligations.OtherCommandsAreAnswered := by
  unfold Obligations.OtherCommandsAreAnswered
  intro listed
  have unlisted {command : Byte} (h : ¬ listed command) : commandBytes.contains command = false :=
    Bool.eq_false_iff.2 (mt (commandBytes_iff command).1 h)
  refine ⟨fun rest => ⟨fun short => ?_, fun long => ?_, rfl, fun slot => ?_, rfl, fun slot => ?_, rfl, fun command h => ?_, rfl, rfl, rfl,
    by cases rest <;> rfl, by cases rest <;> rfl⟩, fun s k => ⟨?_, fun reset cs => ?_, fun out => ⟨fun none => ?_, fun lead h =>
      ⟨fun before => ?_, fun i byte within => ?_, fun after => ?_⟩⟩⟩, fun s quiet => ?_⟩
  · exact congrArg some (if_pos short)
  · exact congrArg some ((if_neg (Nat.not_lt.2 long)).trans (if_pos rfl))
  · refine congrArg some ((if_neg (show ¬ (slot :: rest).length < 1 by simp)).trans ?_)
    exact (if_neg (by decide)).trans ((if_neg (by decide)).trans (if_pos rfl))
  · refine congrArg some ((if_neg (show ¬ (slot :: rest).length < 1 by simp)).trans ?_)
    exact (if_neg (by decide)).trans ((if_neg (by decide)).trans ((if_neg (by decide)).trans ((if_neg (by decide)).trans (if_pos rfl))))
  · exact congrArg some (commandOf_of_unlisted (unlisted h) rest)
  · exact ite_self none
  · exact if_pos reset
  · simp [State.miso, out, none]
  · simp [State.miso, out, h, before]
  · simp [State.miso, out, h, byteAt, within]
  · simp [State.miso, out, h, byteAt, Nat.not_lt.2 (show lead ≤ k by omega),
      List.getElem?_eq_none (show s.lnk.response.length ≤ k - lead by omega)]
  · intro answer
    have settled := settle_of_quiet s quiet
    refine ⟨fun out idle => ⟨?_, fun command h => ?_, ?_⟩, fun command h => ?_, exec_of_closed quiet⟩
    · simp only [exec, execRestart, settled, linkOpen_eq_true out idle, if_true]; rfl
    · have same : answer s.lnk.restartOpen [0x07] = answer false [0x07] := congrArg (answer · [0x07]) idle
      rw [← same, exec, execUnknownCommand, settled, if_pos ⟨linkOpen_eq_true out idle, unlisted h⟩, State.respond,
        argumentBytes_of_unlisted (unlisted h)]; rfl
    · simp only [exec, execCommandAborted, settled, linkOpen_eq_true out idle, if_true]; rfl
    · rw [exec, execUnknownCommand, settled, if_neg fun open_ => by rw [(commandBytes_iff command).2 h] at open_; cases open_.2]

end Sys2Proof.Machine
end

section
/-! The events within boundary work as the statements give them (chapters 2, 3 and 8). -/

namespace Sys2Proof.Machine

open Sys2Proof.Safety

variable {s : State} {c : ConfigRecord}

/-! ### Where the work stands -/

/-- With nothing else partway, the Evidence Engine's events are taken in the state as it stands. -/
theorem finished_for_evidence (ages : ∀ e ∈ s.trk.oet, e.age < 4) (receiver : s.due.receiver ≤ 1) (run : s.due.run = []) :
    s.finishRun.finishExpiries.finishReceiver = s := by
  rw [finishRun_of_none s run, finishExpiries_of_quiet s ages, finishReceiver_of_quiet s receiver]

/-- With nothing else partway, the Note Receiver's events are taken in the state as it stands. -/
theorem finished_for_receiver (ages : ∀ e ∈ s.trk.oet, e.age < 4) (evidence : s.due.evidence ≤ 1) (run : s.due.run = []) :
    s.finishRun.finishExpiries.finishEvidence = s := by
  rw [finishRun_of_none s run, finishExpiries_of_quiet s ages, finishEvidence_of_quiet s evidence]

/-- Work that stands at a step has nothing to do before it. -/
theorem evidenceUpTo_self {k : Nat} (h : s.due.evidence = k) (started : k ≤ 5) : s.evidenceUpTo c k = s := by
  unfold State.evidenceUpTo
  dsimp only
  rw [if_neg (by omega), if_neg (by omega), if_neg (by omega), if_neg (by omega), if_neg (by omega), if_neg (by omega), ← h]
  rfl

theorem receiverUpTo_self {k : Nat} (h : s.due.receiver = k) (started : k ≤ 4) : s.receiverUpTo c k = s := by
  unfold State.receiverUpTo
  dsimp only
  rw [if_neg (by omega), if_neg (by omega), if_neg (by omega), if_neg (by omega), if_neg (by omega), ← h]
  rfl

theorem mapRoster_entry (f : RosterEntry → RosterEntry) (h : s.rcv.roster.length = 24) {x : Nat} (hx : isSlot x = true) :
    (s.mapRoster f).entry x = f (s.entry x) := by
  obtain ⟨low, high⟩ := (isSlot_iff x).1 hx
  simp [State.entry, State.mapRoster, h, show x - 1 < 24 by omega]

/-! ### The Note Receiver's events -/

/-- The mute of a slot ends at this step. -/
def muteEnds (s : State) (x : Nat) : Prop := 1 ≤ s.due.receiver ∧ s.due.receiver ≤ 2 ∧ isSlot x = true ∧ (s.entry x).mute = 1

theorem exec_muteEnd (hc : s.ctl.config = some c) (ages : ∀ e ∈ s.trk.oet, e.age < 4) (evidence : s.due.evidence ≤ 1)
    (run : s.due.run = []) (x : Nat) :
    (muteEnds s x → exec (.muteEnd x) s =
      .next ((s.receiverUpTo c 2).setEntry x { (s.receiverUpTo c 2).entry x with mute := 0 })) ∧
    (¬ muteEnds s x → exec (.muteEnd x) s = .next s) := by
  have step : exec (.muteEnd x) s = .next (if 1 ≤ s.due.receiver ∧ s.due.receiver ≤ 2 ∧ isSlot x = true ∧ (s.entry x).mute = 1 then
      (s.receiverUpTo c 2).setEntry x { (s.receiverUpTo c 2).entry x with mute := 0 } else s) := by
    simp only [exec, execMuteEnd, finished_for_receiver ages evidence run, hc]
  rw [step]
  exact ⟨fun h => congrArg _ (if_pos h), fun h => congrArg _ (if_neg h)⟩

/-- The peer of a slot lapses at this step. -/
def lapses (c : ConfigRecord) (s : State) (x : Nat) : Prop := 1 ≤ s.due.receiver ∧ s.due.receiver ≤ 3 ∧ isSlot x = true ∧
  x ≠ s.ownSlot ∧ (s.entry x).presence = .present ∧ c.lapse ≤ (s.entry x).lapse + 1

theorem exec_lapse (hc : s.ctl.config = some c) (ages : ∀ e ∈ s.trk.oet, e.age < 4) (evidence : s.due.evidence ≤ 1)
    (run : s.due.run = []) (x : Nat) :
    (lapses c s x → exec (.lapse x) s = .next ((s.receiverUpTo c 3).advanceLapse c x)) ∧
    (¬ lapses c s x → exec (.lapse x) s = .next s) := by
  have step : exec (.lapse x) s = .next (if 1 ≤ s.due.receiver ∧ s.due.receiver ≤ 3 ∧ isSlot x = true ∧ x ≠ s.ownSlot ∧
      (s.entry x).presence = .present ∧ c.lapse ≤ (s.entry x).lapse + 1 then (s.receiverUpTo c 3).advanceLapse c x else s) := by
    simp only [exec, execLapse, finished_for_receiver ages evidence run, hc]
  rw [step]
  exact ⟨fun h => congrArg _ (if_pos h), fun h => congrArg _ (if_neg h)⟩

/-- Settles O28: each event by the step at which the work stands. -/
theorem receiverBoundaryEventsAreTaken : Obligations.ReceiverBoundaryEventsAreTaken := by
  intro s c x hc ages evidence run tables low high e lapsing
  have hx : isSlot x = true := (isSlot_iff x).2 ⟨low, high⟩
  obtain ⟨mutes, unmuted⟩ := exec_muteEnd hc ages evidence run x
  obtain ⟨lapsed, stays⟩ := exec_lapse hc ages evidence run x
  have moved (v : State) (ctl : v.ctl = s.ctl) (trk : v.trk = s.trk) (due : v.due = { s.due with receiver := 3 })
      {a m : Nat} (entry : v.entry x = { e with accepted := a, mute := m }) (upTo : s.receiverUpTo c 3 = v)
      (begun : 1 ≤ s.due.receiver) (early : s.due.receiver ≤ 3) (laps : lapsing) : exec (.lapse x) s = exec (.lapse x) v := by
    obtain ⟨other, present, full⟩ := laps
    have there := (exec_lapse (s := v) (c := c) (by rw [ctl, hc]) (by rw [trk]; exact ages) (by rw [due]; exact evidence)
      (by rw [due]; exact run) x).1 ⟨by rw [due]; exact (by decide : 1 ≤ 3), by rw [due], hx,
        by rw [State.ownSlot, ctl]; exact other, by rw [entry]; exact present, by rw [entry]; exact full⟩
    rw [lapsed ⟨begun, early, hx, other, present, full⟩, there, upTo, receiverUpTo_self (k := 3) (by rw [due]) (by omega)]
  refine ⟨fun mute => ⟨fun second => ?_, fun first => ?_⟩, fun h => unmuted fun ends => ?_,
    fun lapse => ⟨fun third => ?_, fun first => ?_, fun second => ?_⟩, fun h => stays fun laps => ?_⟩
  · rw [mutes ⟨by omega, by omega, hx, mute⟩, receiverUpTo_self second (by omega)]
  · let v := s.clearCounts.setReceiverDue 2
    have upTo : s.receiverUpTo c 2 = v := by simp [State.receiverUpTo, first, v]
    have entry : (v.entry x).mute = 1 := (congrArg RosterEntry.mute (mapRoster_entry _ tables.2 hx)).trans mute
    rw [mutes ⟨by omega, by omega, hx, mute⟩, (exec_muteEnd (s := v) hc ages evidence run x).1 ⟨by simp [v, State.setReceiverDue],
      by simp [v, State.setReceiverDue], hx, entry⟩, upTo, receiverUpTo_self (k := 2) (s := v) rfl (by omega)]
  · obtain ⟨begun, early, _, mute⟩ := ends
    obtain h | h | h := h
    · exact h mute
    · omega
    · omega
  · obtain ⟨other, present, due⟩ := lapse
    rw [lapsed ⟨by omega, by omega, hx, other, present, due⟩, receiverUpTo_self third (by omega)]
    refine congrArg Host.Outcome.next ((if_pos ⟨other, present⟩).trans ((if_pos due).trans ?_))
    rfl
  · have entry : s.clearCounts.lowerMutes.entry x = _ :=
      (mapRoster_entry (s := s.clearCounts) _ (by simpa [State.clearCounts] using tables.2) hx).trans
        (congrArg (fun f : RosterEntry => { f with mute := f.mute - 1 }) (mapRoster_entry _ tables.2 hx))
    exact moved _ rfl rfl rfl entry (by simp [State.receiverUpTo, first]) (by omega) (by omega) lapse
  · have entry : s.lowerMutes.entry x = _ := mapRoster_entry _ tables.2 hx
    exact moved _ rfl rfl rfl entry (by simp [State.receiverUpTo, second]) (by omega) (by omega) lapse
  · obtain ⟨begun, early, _, other, present, due⟩ := laps
    obtain h | h | h := h
    · exact h ⟨other, present, due⟩
    · omega
    · omega

/-! ### The Evidence Engine's events -/

/-- A witness entry expires at this step. -/
def witnessExpires (c : ConfigRecord) (s : State) (x w : Nat) : Prop :=
  1 ≤ s.due.evidence ∧ s.due.evidence ≤ 2 ∧ isSlot x = true ∧ hasExpired c s.ctl.epoch w (s.record x) = true

theorem exec_witnessExpiry (hc : s.ctl.config = some c) (ages : ∀ e ∈ s.trk.oet, e.age < 4) (receiver : s.due.receiver ≤ 1)
    (run : s.due.run = []) (x w : Nat) :
    (witnessExpires c s x w → exec (.witnessExpiry x w) s = .next ((s.evidenceUpTo c 2).setRecord x
      { (s.evidenceUpTo c 2).record x with
        witnesses := ((s.evidenceUpTo c 2).record x).witnesses.filter fun v => decide (v.slot ≠ w) })) ∧
    (¬ witnessExpires c s x w → exec (.witnessExpiry x w) s = .next s) := by
  have step : exec (.witnessExpiry x w) s = .next (if 1 ≤ s.due.evidence ∧ s.due.evidence ≤ 2 ∧ isSlot x = true ∧
      hasExpired c s.ctl.epoch w (s.record x) = true then (s.evidenceUpTo c 2).setRecord x { (s.evidenceUpTo c 2).record x with
        witnesses := ((s.evidenceUpTo c 2).record x).witnesses.filter fun v => decide (v.slot ≠ w) } else s) := by
    simp only [exec, execWitnessExpiry, finished_for_evidence ages receiver run, hc]
  rw [step]
  exact ⟨fun h => congrArg _ (if_pos h), fun h => congrArg _ (if_neg h)⟩

theorem hasExpired_iff (c : ConfigRecord) (now : Half) (w : Nat) (r : BoardRecord) :
    hasExpired c now w r = true ↔ ∃ v ∈ r.witnesses, v.slot = w ∧ c.expiry ≤ (now - v.epoch).toNat := by
  simp only [hasExpired, witnessExpired, List.any_eq_true, Bool.and_eq_true, decide_eq_true_eq]
  exact Iff.rfl

theorem exec_pendingEntryDue (hc : s.ctl.config = some c) (ages : ∀ e ∈ s.trk.oet, e.age < 4) (receiver : s.due.receiver ≤ 1)
    (run : s.due.run = []) :
    (∀ e, s.eng.accusations.find? (isDue s.ctl.epoch) = some e → 1 ≤ s.due.evidence → s.due.evidence ≤ 3 →
      exec .pendingEntryDue s = .next (((s.evidenceUpTo c 3).applyEntry c e).setAccusations
        (((s.evidenceUpTo c 3).applyEntry c e).eng.accusations.eraseP (isDue s.ctl.epoch)))) ∧
    (s.eng.accusations.find? (isDue s.ctl.epoch) = none ∨ s.due.evidence = 0 ∨ 4 ≤ s.due.evidence →
      exec .pendingEntryDue s = .next s) := by
  have finished := finished_for_evidence ages receiver run
  refine ⟨fun e found begun early => ?_, fun h => ?_⟩
  · simp only [exec, execPendingEntryDue, finished, hc, found]
    rw [if_pos ⟨begun, early⟩]
  · simp only [exec, execPendingEntryDue, finished, hc]
    cases found : s.eng.accusations.find? (isDue s.ctl.epoch) with
    | none => rfl
    | some e => exact congrArg _ (if_neg fun open_ => by rw [found] at h; obtain h | h | h := h <;> [cases h; omega; omega])

/-- The probation of a slot ends at this step. -/
def probationEnds (s : State) (x : Nat) : Prop :=
  1 ≤ s.due.evidence ∧ s.due.evidence ≤ 5 ∧ isSlot x = true ∧ (s.record x).probation = 1

theorem exec_probationEnd (hc : s.ctl.config = some c) (ages : ∀ e ∈ s.trk.oet, e.age < 4) (receiver : s.due.receiver ≤ 1)
    (run : s.due.run = []) (x : Nat) :
    (probationEnds s x → exec (.probationEnd x) s =
      .next ((s.evidenceUpTo c 5).setRecord x { (s.evidenceUpTo c 5).record x with probation := 0 })) ∧
    (¬ probationEnds s x → exec (.probationEnd x) s = .next s) := by
  have step : exec (.probationEnd x) s = .next (if 1 ≤ s.due.evidence ∧ s.due.evidence ≤ 5 ∧ isSlot x = true ∧
      (s.record x).probation = 1 then (s.evidenceUpTo c 5).setRecord x { (s.evidenceUpTo c 5).record x with probation := 0 } else s) := by
    simp only [exec, execProbationEnd, finished_for_evidence ages receiver run, hc]
  rw [step]
  exact ⟨fun h => congrArg _ (if_pos h), fun h => congrArg _ (if_neg h)⟩

/-! ### Probation within the boundary work -/

theorem applyItem_probation (c : ConfigRecord) (w a : Nat) (k : EvidenceKind) (n : Nat) (s : State) (h : s.eng.records.length = 24)
    {x : Nat} (hx : isSlot x = true) : ((s.applyItem c w a k n).record x).probation = (s.record x).probation := by
  by_cases slots : (isSlot w && isSlot a) = true
  · obtain ⟨hw, ha⟩ := Bool.and_eq_true_iff.1 slots
    by_cases same : x = a
    · rw [same, applyItem_record c w a k n s h hw ha]; rfl
    · rw [applyItem_record_other c w a x k n s hx same]
  · rw [State.applyItem, if_neg slots]

theorem applyDue_probation (c : ConfigRecord) (s : State) (h : s.eng.records.length = 24) {x : Nat} (hx : isSlot x = true) :
    (s.applyDue c).eng.records.length = 24 ∧ ((s.applyDue c).record x).probation = (s.record x).probation := by
  have fold (l : List Accusation) (t : State) (ht : t.eng.records.length = 24) :
      (l.foldl (fun t e => t.applyEntry c e) t).eng.records.length = 24 ∧
        ((l.foldl (fun t e => t.applyEntry c e) t).record x).probation = (t.record x).probation := by
    induction l generalizing t with
    | nil => exact ⟨ht, rfl⟩
    | cons e rest ih =>
      obtain ⟨length, probation⟩ := ih (t.applyEntry c e) (by rw [State.applyEntry, applyItem_length]; exact ht)
      exact ⟨length, probation.trans (applyItem_probation c _ _ _ _ t ht hx)⟩
  exact fold _ s h

theorem evaluateAll_length (c : ConfigRecord) (s : State) : (s.evaluateAll c).eng.records.length = s.eng.records.length := by
  unfold State.evaluateAll
  induction slots generalizing s with
  | nil => rfl
  | cons x rest ih => rw [List.foldl_cons, ih, evaluate_length]

/-- The steps before the third leave the station and the pending list alone. -/
theorem evidenceUpTo_three_held (c : ConfigRecord) (s : State) :
    (s.evidenceUpTo c 3).ctl = s.ctl ∧ (s.evidenceUpTo c 3).eng.accusations = s.eng.accusations := by
  have step {q : Prop} [Decidable q] {t u : State} (base : t.ctl = s.ctl ∧ t.eng.accusations = s.eng.accusations)
      (same : u.ctl = t.ctl ∧ u.eng.accusations = t.eng.accusations) :
      (if q then u else t).ctl = s.ctl ∧ (if q then u else t).eng.accusations = s.eng.accusations := by
    split
    · exact ⟨same.1.trans base.1, same.2.trans base.2⟩
    · exact base
  unfold State.evidenceUpTo
  dsimp only
  rw [if_neg (show ¬ (s.due.evidence ≤ 5 ∧ 5 < 3) by omega), if_neg (show ¬ (s.due.evidence ≤ 4 ∧ 4 < 3) by omega),
    if_neg (show ¬ (s.due.evidence ≤ 3 ∧ 3 < 3) by omega)]
  exact step (u := State.expireWitnesses c _) (step (u := State.decayScores c _) ⟨rfl, rfl⟩ ⟨rfl, rfl⟩) ⟨rfl, rfl⟩

/-- The steps before the fifth leave every probation remaining. -/
theorem evidenceUpTo_five_probation (c : ConfigRecord) (s : State) (h : s.eng.records.length = 24) {x : Nat} (hx : isSlot x = true) :
    ((s.evidenceUpTo c 5).record x).probation = (s.record x).probation := by
  have step {q : Prop} [Decidable q] {t u : State} (base : t.eng.records.length = 24 ∧ (t.record x).probation = (s.record x).probation)
      (keeps : t.eng.records.length = 24 → u.eng.records.length = 24 ∧ (u.record x).probation = (t.record x).probation) :
      (if q then u else t).eng.records.length = 24 ∧ ((if q then u else t).record x).probation = (s.record x).probation := by
    split
    · exact ⟨(keeps base.1).1, (keeps base.1).2.trans base.2⟩
    · exact base
  have mapped {t : State} (f : BoardRecord → BoardRecord) (same : ∀ r, (f r).probation = r.probation) (ht : t.eng.records.length = 24) :
      (t.mapRecords f).eng.records.length = 24 ∧ ((t.mapRecords f).record x).probation = (t.record x).probation :=
    ⟨by simpa [State.mapRecords] using ht, by rw [mapRecords_record t f ht x hx, same]⟩
  have weeded {t : State} (ht : t.eng.records.length = 24) : (t.expireWitnesses c).eng.records.length = 24 ∧
      ((t.expireWitnesses c).record x).probation = (t.record x).probation :=
    mapped (fun r => { r with witnesses := r.witnesses.filter fun w => !witnessExpired c t.ctl.epoch w }) (fun _ => rfl) ht
  have evaluated {t : State} (ht : t.eng.records.length = 24) :
      (t.evaluateAll c).eng.records.length = 24 ∧ ((t.evaluateAll c).record x).probation = (t.record x).probation :=
    ⟨by rw [evaluateAll_length, ht], by rw [evaluateAll_record c t ht x hx]; rfl⟩
  unfold State.evidenceUpTo
  dsimp only
  rw [if_neg (show ¬ (s.due.evidence ≤ 5 ∧ 5 < 5) by omega)]
  exact (step (q := s.due.evidence ≤ 4 ∧ 4 < 5) (step (q := s.due.evidence ≤ 3 ∧ 3 < 5) (step (q := s.due.evidence ≤ 2 ∧ 2 < 5)
    (u := State.expireWitnesses c _) (step (q := s.due.evidence ≤ 1 ∧ 1 < 5) (t := s.setEvidenceDue 5) (u := State.decayScores c _)
      ⟨h, rfl⟩ (mapped (fun r => { r with score := decayed c.decay r.score }) fun _ => rfl))
    weeded) fun ht => applyDue_probation c _ ht hx) evaluated).2

/-- Settles O26: each event by the step at which the work stands. -/
theorem evidenceBoundaryEventsAreTaken : Obligations.EvidenceBoundaryEventsAreTaken := by
  intro s c x w hc ages receiver run tables low high expired stepsBefore
  have hx : isSlot x = true := (isSlot_iff x).2 ⟨low, high⟩
  obtain ⟨expires, unexpired⟩ := exec_witnessExpiry hc ages receiver run x w
  obtain ⟨applies, unapplied⟩ := exec_pendingEntryDue hc ages receiver run
  obtain ⟨ends, lasts⟩ := exec_probationEnd hc ages receiver run x
  have expired_iff : hasExpired c s.ctl.epoch w (s.record x) = true ↔ expired := hasExpired_iff ..
  have upTo (k : Nat) (begun : 1 ≤ s.due.evidence) (late : 3 ≤ k) (within : k ≤ 5) : s.evidenceUpTo c k = stepsBefore k := by
    have decay : (s.due.evidence ≤ 1 ∧ 1 < k) = (s.due.evidence = 1) := propext ⟨fun _ => by omega, fun _ => by omega⟩
    have expire : (s.due.evidence ≤ 2 ∧ 2 < k) = (s.due.evidence ≤ 2) := propext ⟨fun _ => by omega, fun _ => by omega⟩
    unfold State.evidenceUpTo
    dsimp only
    rw [if_neg (show ¬ (s.due.evidence ≤ 5 ∧ 5 < k) by omega), if_neg (show ¬ 6 ≤ k by omega)]
    simp only [decay, expire, stepsBefore]
  refine ⟨fun second h => ?_, fun first h => ?_, fun h => unexpired fun exp => ?_, fun before after e split others due =>
    ⟨fun third => ?_, fun early => ?_⟩, fun h => unapplied ?_, fun last => ⟨fun fifth => ?_, fun begun early => ?_⟩,
    fun h => lasts fun now => ?_⟩
  · rw [expires ⟨by omega, by omega, hx, expired_iff.2 h⟩, evidenceUpTo_self second (by omega)]
  · let v := (s.decayScores c).setEvidenceDue 2
    have upTo : s.evidenceUpTo c 2 = v := by simp [State.evidenceUpTo, first, v]; rfl
    have found : hasExpired c s.ctl.epoch w (v.record x) = true :=
      (congrArg (hasExpired c s.ctl.epoch w) (mapRecords_record s _ tables.1 x hx)).trans (expired_iff.2 h)
    rw [expires ⟨by omega, by omega, hx, expired_iff.2 h⟩, (exec_witnessExpiry (s := v) hc ages receiver run x w).1
      ⟨by simp [v, State.setEvidenceDue], by simp [v, State.setEvidenceDue], hx, found⟩, upTo,
      evidenceUpTo_self (k := 2) (s := v) rfl (by omega)]
  · obtain ⟨begun, early, _, found⟩ := exp
    obtain h | h | h := h
    · omega
    · omega
    · exact h (expired_iff.1 found)
  · have found : s.eng.accusations.find? (isDue s.ctl.epoch) = some e := by
      rw [split]
      exact find?_append_cons (by simpa [isDue] using others) (by simpa [isDue] using due)
    rw [applies e found (by omega) (by omega), evidenceUpTo_self third (by omega)]
    refine congrArg Host.Outcome.next (congrArg (State.setAccusations _) ?_)
    rw [State.applyEntry, applyItem_accusations, split]
    exact eraseP_append_cons (by simpa [isDue] using others) (by simpa [isDue] using due)
  · have found : s.eng.accusations.find? (isDue s.ctl.epoch) = some e := by
      rw [split]
      exact find?_append_cons (by simpa [isDue] using others) (by simpa [isDue] using due)
    rw [← upTo 3 (by omega) (by omega) (by omega)]
    have third : (s.evidenceUpTo c 3).due = { s.due with evidence := 3 } := evidenceUpTo_due c 3 s
    have held := evidenceUpTo_three_held c s
    obtain ⟨taken, _⟩ := exec_pendingEntryDue (s := s.evidenceUpTo c 3) (c := c) (by rw [held.1, hc])
      (by rw [evidenceUpTo_trk]; exact ages) (by rw [third]; exact receiver) (by rw [third]; exact run)
    rw [applies e found (by omega) (by omega), taken e (by rw [held.1, held.2]; exact found) (by rw [third]; exact (by decide : 1 ≤ 3))
      (by rw [third]), evidenceUpTo_self (k := 3) (s := s.evidenceUpTo c 3) (by rw [third]) (by omega), held.1]
  · refine h.imp_left fun none => List.find?_eq_none.2 fun e he => ?_
    simpa [isDue] using none e he
  · rw [ends ⟨by omega, by omega, hx, last⟩, evidenceUpTo_self fifth (by omega)]
  · rw [← upTo 5 begun (by omega) (by omega)]
    have frame := evidenceUpTo_frame c 5 s
    have fifth : (s.evidenceUpTo c 5).due = { s.due with evidence := 5 } := evidenceUpTo_due c 5 s
    obtain ⟨there, _⟩ := exec_probationEnd (s := s.evidenceUpTo c 5) (c := c) (by rw [frame.ctl]; exact hc)
      (by rw [evidenceUpTo_trk]; exact ages) (by rw [fifth]; exact receiver) (by rw [fifth]; exact run) x
    rw [ends ⟨begun, by omega, hx, last⟩, there ⟨by rw [fifth]; exact (by decide : 1 ≤ 5), by rw [fifth], hx,
      (evidenceUpTo_five_probation c s tables.1 hx).trans last⟩,
      evidenceUpTo_self (k := 5) (s := s.evidenceUpTo c 5) (by rw [fifth]) (by omega)]
  · obtain ⟨begun, early, _, last⟩ := now
    obtain h | h | h := h
    · exact h last
    · omega
    · omega

end Sys2Proof.Machine
end

section
/-! The Note Receiver's boundary work, entry by entry (chapter 8). -/

namespace Sys2Proof.Machine

open Sys2Proof.Safety

variable {s : State} {c : ConfigRecord}

/-! ### The lapse counter of one slot -/

/-- Whether the peer of a slot reaches the lapse limit at this boundary (R139). -/
def reachesLimit (c : ConfigRecord) (s : State) (x : Nat) : Bool :=
  decide ((x ≠ s.ownSlot ∧ (s.entry x).presence = .present) ∧ c.lapse ≤ (s.entry x).lapse + 1)

/-- A roster entry after its lapse counter has advanced (R139). -/
def advancedEntry (c : ConfigRecord) (s : State) (x : Nat) : RosterEntry :=
  { s.entry x with
    lapse := if x ≠ s.ownSlot ∧ (s.entry x).presence = .present then (s.entry x).lapse + 1 else (s.entry x).lapse
    presence := if reachesLimit c s x then .lapsed else (s.entry x).presence }

/-- The notice of a lapse. -/
def lapseNotice (s : State) (x : Nat) : Notice := { body := .presence x .present .lapsed, epoch := s.ctl.epoch, overrun := false }

theorem setEntry_self (h : s.rcv.roster.length = 24) {x : Nat} (hx : isSlot x = true) : s.setEntry x (s.entry x) = s := by
  obtain ⟨low, high⟩ := (isSlot_iff x).1 hx
  have inside : x - 1 < s.rcv.roster.length := by omega
  have same : s.rcv.roster.set (x - 1) (s.entry x) = s.rcv.roster := by
    rw [State.entry, List.getD_eq_getElem _ _ inside, List.set_getElem_self]
  exact congrArg (fun roster => { s with rcv := { s.rcv with roster := roster } }) same

/-- One slot's turn: the entry advances, and a lapse is posted. -/
theorem advanceLapse_of_slot (h : s.rcv.roster.length = 24) {x : Nat} (hx : isSlot x = true) :
    s.advanceLapse c x = if reachesLimit c s x then (s.setEntry x (advancedEntry c s x)).post (.presence x .present .lapsed)
      else s.setEntry x (advancedEntry c s x) := by
  unfold State.advanceLapse advancedEntry reachesLimit
  dsimp only
  by_cases peer : x ≠ s.ownSlot ∧ (s.entry x).presence = .present
  · by_cases full : c.lapse ≤ (s.entry x).lapse + 1
    · simp [peer, full]
    · simp [peer, full]
  · simp only [peer, false_and, decide_false, Bool.false_eq_true, if_false]
    exact (setEntry_self h hx).symm

theorem advanceLapse_rcv (h : s.rcv.roster.length = 24) {x : Nat} (hx : isSlot x = true) :
    (s.advanceLapse c x).rcv = (s.setEntry x (advancedEntry c s x)).rcv := by
  rw [advanceLapse_of_slot h hx]
  split
  · exact State.post_rcv _ _
  · rfl

theorem advanceLapse_roster_length (h : s.rcv.roster.length = 24) {x : Nat} (hx : isSlot x = true) :
    (s.advanceLapse c x).rcv.roster.length = 24 := by
  rw [advanceLapse_rcv h hx, State.setEntry_rcv, List.length_set, h]

theorem advanceLapse_entry_same (h : s.rcv.roster.length = 24) {x : Nat} (hx : isSlot x = true) :
    (s.advanceLapse c x).entry x = advancedEntry c s x := by
  rw [State.entry, advanceLapse_rcv h hx]
  exact State.entry_setEntry_same _ h _ hx _

theorem advanceLapse_entry_other (h : s.rcv.roster.length = 24) {x y : Nat} (hx : isSlot x = true) (hy : isSlot y = true)
    (other : y ≠ x) : (s.advanceLapse c x).entry y = s.entry y := by
  rw [State.entry, advanceLapse_rcv h hx]
  exact State.entry_setEntry_other _ _ _ hx hy other _

theorem post_of_room (b : NoticeBody) (room : s.lnk.notices.length < 32) :
    s.post b = { s with lnk := { s.lnk with
      notices := s.lnk.notices ++ [{ body := b, epoch := s.ctl.epoch, overrun := false }] } } := if_pos room

/-- With room in the queue a lapse appends its notice, and nothing else of the link moves. -/
theorem advanceLapse_lnk (h : s.rcv.roster.length = 24) {x : Nat} (hx : isSlot x = true)
    (room : s.lnk.notices.length + ([x].filter (reachesLimit c s)).length ≤ 32) :
    (s.advanceLapse c x).lnk =
      { s.lnk with notices := s.lnk.notices ++ ([x].filter (reachesLimit c s)).map (lapseNotice s) } := by
  rw [advanceLapse_of_slot h hx]
  by_cases full : reachesLimit c s x = true
  · rw [List.filter_cons_of_pos full] at room ⊢
    rw [if_pos full, post_of_room (s := s.setEntry x _) _ (show s.lnk.notices.length < 32 by simp at room; omega)]
    rfl
  · rw [if_neg full, List.filter_cons_of_neg full]
    simp

/-! ### The lapse counters in slot order -/

/-- A turn of one slot leaves what another slot's turn goes by. -/
theorem advanceLapse_other (h : s.rcv.roster.length = 24) {x y : Nat} (hx : isSlot x = true) (hy : isSlot y = true) (other : y ≠ x) :
    advancedEntry c (s.advanceLapse c x) y = advancedEntry c s y ∧ reachesLimit c (s.advanceLapse c x) y = reachesLimit c s y := by
  have entry : (s.advanceLapse c x).entry y = s.entry y := advanceLapse_entry_other h hx hy other
  have own : (s.advanceLapse c x).ownSlot = s.ownSlot := by rw [State.ownSlot, advanceLapse_ctl]; rfl
  simp only [advancedEntry, reachesLimit, entry, own]
  exact ⟨rfl, trivial⟩

/-- The turns of some slots, in order: every one of them advances its own entry. -/
theorem foldl_advanceLapse_entry (l : List Nat) (s : State) (h : s.rcv.roster.length = 24) (once : l.Nodup)
    (slots : ∀ x ∈ l, isSlot x = true) :
    (l.foldl (fun t x => t.advanceLapse c x) s).rcv.roster.length = 24 ∧ ∀ y, isSlot y = true →
      (l.foldl (fun t x => t.advanceLapse c x) s).entry y = if y ∈ l then advancedEntry c s y else s.entry y := by
  induction l generalizing s with
  | nil => exact ⟨h, fun y _ => (if_neg (by simp)).symm⟩
  | cons x rest ih =>
    obtain ⟨fresh, once⟩ := List.nodup_cons.1 once
    have hx : isSlot x = true := slots x (by simp)
    obtain ⟨length, entries⟩ := ih (s.advanceLapse c x) (advanceLapse_roster_length h hx) once fun y hy => slots y (by simp [hy])
    refine ⟨length, fun y hy => (entries y hy).trans ?_⟩
    by_cases same : y = x
    · rw [if_neg (same ▸ fresh), if_pos (by simp [same]), same, advanceLapse_entry_same h hx]
    · rw [(advanceLapse_other h hx hy same).1, advanceLapse_entry_other h hx hy same]
      simp [same]

/-- The turns of some slots post their lapses in order. -/
theorem foldl_advanceLapse_lnk (l : List Nat) (s : State) (h : s.rcv.roster.length = 24) (once : l.Nodup)
    (slots : ∀ x ∈ l, isSlot x = true) (room : s.lnk.notices.length + (l.filter (reachesLimit c s)).length ≤ 32) :
    (l.foldl (fun t x => t.advanceLapse c x) s).lnk =
      { s.lnk with notices := s.lnk.notices ++ (l.filter (reachesLimit c s)).map (lapseNotice s) } := by
  induction l generalizing s with
  | nil => simp
  | cons x rest ih =>
    obtain ⟨fresh, once⟩ := List.nodup_cons.1 once
    have hx : isSlot x = true := slots x (by simp)
    have later : rest.filter (reachesLimit c (s.advanceLapse c x)) = rest.filter (reachesLimit c s) :=
      List.filter_congr fun y hy => (advanceLapse_other h hx (slots y (by simp [hy])) fun same => fresh (same ▸ hy)).2
    have split : (x :: rest).filter (reachesLimit c s) = [x].filter (reachesLimit c s) ++ rest.filter (reachesLimit c s) :=
      List.filter_append (l₁ := [x]) ..
    have notice : lapseNotice (s.advanceLapse c x) = lapseNotice s := by unfold lapseNotice; rw [advanceLapse_ctl]
    rw [split, List.length_append] at room
    have posted := advanceLapse_lnk (c := c) h hx (by omega)
    rw [List.foldl_cons, ih _ (advanceLapse_roster_length h hx) once (fun y hy => slots y (by simp [hy]))
      (by rw [later, posted, List.length_append, List.length_map]; omega), later, notice, posted, split]
    simp

theorem advanceLapses_entry (h : s.rcv.roster.length = 24) : (s.advanceLapses c).rcv.roster.length = 24 ∧
    ∀ x, isSlot x = true → (s.advanceLapses c).entry x = advancedEntry c s x := by
  unfold State.advanceLapses
  obtain ⟨length, entries⟩ := foldl_advanceLapse_entry (c := c) slots s h slots_nodup fun x => (mem_slots x).1
  exact ⟨length, fun x hx => (entries x hx).trans (if_pos ((mem_slots x).2 hx))⟩

theorem advanceLapses_lnk (h : s.rcv.roster.length = 24)
    (room : s.lnk.notices.length + (slots.filter (reachesLimit c s)).length ≤ 32) : (s.advanceLapses c).lnk =
      { s.lnk with notices := s.lnk.notices ++ (slots.filter (reachesLimit c s)).map (lapseNotice s) } := by
  unfold State.advanceLapses
  exact foldl_advanceLapse_lnk slots s h slots_nodup (fun x => (mem_slots x).1) room

/-- The lapse counters stand in the roster. -/
theorem advanceLapses_rcv (c : ConfigRecord) (s : State) :
    (s.advanceLapses c).rcv = { s.rcv with roster := (s.advanceLapses c).rcv.roster } := by
  have turn (s : State) (x : Nat) : (s.advanceLapse c x).rcv = { s.rcv with roster := (s.advanceLapse c x).rcv.roster } := by
    unfold State.advanceLapse
    dsimp only
    split
    · split
      · rw [State.post_rcv]; rfl
      · rfl
    · rfl
  unfold State.advanceLapses
  induction slots generalizing s with
  | nil => rfl
  | cons x rest ih => rw [List.foldl_cons, ih, turn]

/-! ### The whole work -/

/-- The state before the lapse counters: the counts and mutes that are still to do (R141). -/
def countsAndMutes (s : State) : State :=
  let counted := if s.due.receiver ≤ 1 then s.clearCounts else s
  if s.due.receiver ≤ 2 then counted.lowerMutes else counted

theorem countsAndMutes_frame (s : State) (h : s.rcv.roster.length = 24) :
    countsAndMutes s = { s with rcv := { s.rcv with roster := (countsAndMutes s).rcv.roster } } ∧
      (countsAndMutes s).rcv.roster.length = 24 := by
  unfold countsAndMutes
  dsimp only
  split <;> split <;> simp [State.clearCounts, State.lowerMutes, State.mapRoster, h]

theorem countsAndMutes_entry (s : State) (h : s.rcv.roster.length = 24) (begun : 1 ≤ s.due.receiver) {x : Nat} (hx : isSlot x = true) :
    (countsAndMutes s).entry x = { s.entry x with
      accepted := if s.due.receiver = 1 then 0 else (s.entry x).accepted
      mute := if s.due.receiver ≤ 2 then (s.entry x).mute - 1 else (s.entry x).mute } := by
  have cleared : s.clearCounts.entry x = { s.entry x with accepted := 0 } := mapRoster_entry _ h hx
  have lowered (t : State) (ht : t.rcv.roster.length = 24) : t.lowerMutes.entry x = { t.entry x with mute := (t.entry x).mute - 1 } :=
    mapRoster_entry _ ht hx
  unfold countsAndMutes
  dsimp only
  by_cases first : s.due.receiver = 1
  · have second : s.due.receiver ≤ 2 := by omega
    rw [if_pos second, if_pos first.le, if_pos first, if_pos second,
      lowered _ (by simpa [State.clearCounts, State.mapRoster] using h), cleared]
  · have later : ¬ s.due.receiver ≤ 1 := by omega
    rw [if_neg later, if_neg first]
    by_cases second : s.due.receiver ≤ 2
    · rw [if_pos second, if_pos second, lowered _ h]
    · rw [if_neg second, if_neg second]

/-- The state before the quorum: counts, mutes and lapse counters that are still to do (R141). -/
def beforeQuorum (c : ConfigRecord) (s : State) : State :=
  if s.due.receiver ≤ 3 then (countsAndMutes s).advanceLapses c else countsAndMutes s

theorem receiverUpTo_five (h : s.due.receiver ≤ 4) : s.receiverUpTo c 5 = ((beforeQuorum c s).peerQuorum c).setReceiverDue 0 := by
  unfold State.receiverUpTo beforeQuorum countsAndMutes
  dsimp only
  simp only [h, Nat.le_refl, Nat.reduceLT, and_true, if_true]

theorem beforeQuorum_frame (c : ConfigRecord) (s : State) (h : s.rcv.roster.length = 24) :
    beforeQuorum c s = { s with rcv := (beforeQuorum c s).rcv, lnk := (beforeQuorum c s).lnk } ∧
      (beforeQuorum c s).rcv = { s.rcv with roster := (beforeQuorum c s).rcv.roster } := by
  obtain ⟨frame, _⟩ := countsAndMutes_frame s h
  unfold beforeQuorum
  split
  · have rcv := advanceLapses_rcv c (countsAndMutes s)
    have all := advanceLapses_eq c (countsAndMutes s)
    generalize (countsAndMutes s).advanceLapses c = t at rcv all
    generalize countsAndMutes s = u at frame rcv all
    generalize u.rcv.roster = roster at frame
    subst frame
    exact ⟨all, rcv⟩
  · generalize countsAndMutes s = u at frame
    exact ⟨congrArg (fun v : State => { v with rcv := u.rcv, lnk := u.lnk }) frame, congrArg State.rcv frame⟩

/-- What a slot's turn goes by is not touched by counts and mutes. -/
theorem countsAndMutes_turn (s : State) (h : s.rcv.roster.length = 24) (begun : 1 ≤ s.due.receiver) {x : Nat} (hx : isSlot x = true) :
    reachesLimit c (countsAndMutes s) x = reachesLimit c s x ∧ (countsAndMutes s).ownSlot = s.ownSlot := by
  have own : (countsAndMutes s).ownSlot = s.ownSlot := by rw [(countsAndMutes_frame s h).1]; rfl
  refine ⟨?_, own⟩
  simp only [reachesLimit, countsAndMutes_entry s h begun hx, own]

/-- Settles O27: the first three steps entry by entry, then the quorum. -/
theorem receiverBoundaryWorkIsDone : Obligations.ReceiverBoundaryWorkIsDone := by
  unfold Obligations.ReceiverBoundaryWorkIsDone
  intro s c hc ages evidence run tables next advancing lapses
  have step : exec .noteReceiverBoundaryWork s = .next (s.receiverWork c) := by
    simp only [exec, execNoteReceiverBoundaryWork, finished_for_receiver ages evidence run, hc]
  refine ⟨fun none => step.trans (congrArg Host.Outcome.next (if_neg (by omega))), fun begun within => ?_⟩
  obtain ⟨frame, length⟩ := countsAndMutes_frame s tables.2
  obtain ⟨outside, roster⟩ := beforeQuorum_frame c s tables.2
  have slotsIn : ∀ y ∈ slots, isSlot y = true := fun y => (mem_slots y).1
  obtain ⟨kept, turned⟩ := advanceLapses_entry (c := c) length
  have lapses_eq : lapses = if next ≤ 3 then slots.filter (reachesLimit c (countsAndMutes s)) else [] := by
    by_cases early : next ≤ 3
    · rw [if_pos early]
      have same : ∀ x ∈ slots, decide (advancing x ∧ c.lapse ≤ (s.entry x).lapse + 1) = reachesLimit c (countsAndMutes s) x :=
        fun x hx => (decide_eq_decide.2 (and_congr_left' ⟨And.right, And.intro early⟩)).trans
          (countsAndMutes_turn s tables.2 begun (slotsIn x hx)).1.symm
      exact List.filter_congr same
    · rw [if_neg early]
      exact List.filter_eq_nil_iff.2 fun x _ => by simpa using fun now => absurd now.1 early
  refine ⟨beforeQuorum c s, step.trans (congrArg Host.Outcome.next ((if_pos begun).trans (receiverUpTo_five within))),
    outside, roster, ?_, fun x low high => ?_, fun room => ?_⟩
  · unfold beforeQuorum
    split
    · exact kept
    · exact length
  · have hx : isSlot x = true := (isSlot_iff x).2 ⟨low, high⟩
    have before := countsAndMutes_entry s tables.2 begun hx
    have own := (countsAndMutes_turn (c := c) s tables.2 begun hx).2
    by_cases early : next ≤ 3
    · have lapsing : x ∈ lapses ↔ reachesLimit c (countsAndMutes s) x = true := by
        rw [lapses_eq, if_pos early, List.mem_filter]
        exact and_iff_right ((mem_slots x).2 hx)
      rw [beforeQuorum, if_pos early, turned x hx, advancedEntry, before, own]
      simp only [advancing, early, true_and, lapsing]
      rfl
    · have stays : x ∉ lapses := by rw [lapses_eq, if_neg early]; simp
      rw [beforeQuorum, if_neg early, before]
      simp only [advancing, early, false_and, if_false, stays]
      rfl
  · have link : (countsAndMutes s).lnk = s.lnk := by rw [frame]
    by_cases early : next ≤ 3
    · rw [if_pos early] at lapses_eq
      have posted : (beforeQuorum c s).lnk = _ := (congrArg State.lnk (if_pos early)).trans
        (advanceLapses_lnk length (by rw [link, ← lapses_eq]; exact room))
      have notice : lapseNotice (countsAndMutes s) = lapseNotice s := by unfold lapseNotice; rw [frame]
      rw [posted, link, ← lapses_eq, notice]
      exact ⟨rfl, rfl⟩
    · rw [if_neg early] at lapses_eq
      have same : (beforeQuorum c s).lnk = s.lnk := (congrArg State.lnk (if_neg early)).trans link
      rw [same, lapses_eq]
      exact ⟨(List.append_nil _).symm, rfl⟩

end Sys2Proof.Machine
end

section
/-! The Evidence Engine's boundary work, record by record (chapters 2, 3 and 5). -/

namespace Sys2Proof.Machine

open Sys2Proof.Safety

variable {s t : State} {c : ConfigRecord}

/-! ### What the quarantine trigger does by the controller and the buffer -/

/-- What the trigger posts in a station's state (R90, R92). -/
def triggerNotice (c : ConfigRecord) (k : Trigger) (z : Nat) (ctl : Controller) : Option NoticeBody :=
  match ctl.station with
  | .running => some (.quarantine .entered k (ctl.latch || decide (c.fence = .enforce)) z)
  | .mute _ => if c.fence = .enforce ∧ ctl.latch = false then some (.quarantine .latchSet k true z) else none
  | .enrolling | .quarantined | .unconfigured => none

/-- The notices of the own trigger, as they stand in the queue. -/
def follows (c : ConfigRecord) (s : State) (z : Nat) : List Notice :=
  (triggerNotice c .evidence z s.ctl).toList.map fun b => { body := b, epoch := s.ctl.epoch, overrun := false }

theorem takeTrigger_congr (ctl : t.ctl = s.ctl) (xmt : t.xmt = s.xmt) (k : Trigger) (z : Nat) :
    (t.takeTrigger c k z).ctl = (s.takeTrigger c k z).ctl ∧ (t.takeTrigger c k z).xmt = (s.takeTrigger c k z).xmt := by
  unfold State.takeTrigger
  rw [ctl]
  split
  · obtain ⟨tCtl, tXmt, _⟩ := enterQuarantined_eq c k z t
    obtain ⟨sCtl, sXmt, _⟩ := enterQuarantined_eq c k z s
    rw [tCtl, tXmt, sCtl, sXmt, ctl, xmt]
    exact ⟨rfl, rfl⟩
  · exact ⟨rfl, xmt⟩
  · unfold State.triggerInMute
    rw [ctl]
    split
    · simp [xmt]
    · exact ⟨ctl, xmt⟩
  · exact ⟨ctl, xmt⟩
  · exact ⟨ctl, xmt⟩

theorem post_lnk_congr (b : NoticeBody) (epoch : t.ctl.epoch = s.ctl.epoch) (lnk : t.lnk = s.lnk) : (t.post b).lnk = (s.post b).lnk := by
  unfold State.post
  rw [lnk, epoch]
  split
  · rfl
  · rw [State.latchFlag_lnk, State.latchFlag_lnk]

theorem takeTrigger_lnk_eq (c : ConfigRecord) (k : Trigger) (z : Nat) (s : State) :
    (s.takeTrigger c k z).lnk = ((triggerNotice c k z s.ctl).elim s s.post).lnk := by
  unfold State.takeTrigger triggerNotice
  cases s.ctl.station with
  | running => exact post_lnk_congr _ rfl rfl
  | mute r =>
    unfold State.triggerInMute
    dsimp only
    split
    · exact post_lnk_congr _ rfl rfl
    · rfl
  | enrolling => rfl
  | quarantined => rfl
  | unconfigured => rfl

/-- With room the queue takes the notices of the trigger, and nothing else of the link moves. -/
theorem takeTrigger_lnk {z : Nat} (room : s.lnk.notices.length + (follows c s z).length ≤ 32) :
    (s.takeTrigger c .evidence z).lnk = { s.lnk with notices := s.lnk.notices ++ follows c s z } := by
  rw [takeTrigger_lnk_eq]
  unfold follows at room ⊢
  cases notice : triggerNotice c .evidence z s.ctl with
  | none => simp
  | some b =>
    rw [notice] at room
    exact congrArg State.lnk (post_of_room b (show s.lnk.notices.length < 32 by simpa using room))

theorem follows_length_le (c : ConfigRecord) (s : State) (z : Nat) : (follows c s z).length ≤ 1 := by
  unfold follows
  cases triggerNotice c .evidence z s.ctl <;> simp

/-! ### One evaluation -/

/-- The independent zones of a record as it stands (R45). -/
def zonesOf (c : ConfigRecord) (s : State) (x : Nat) : Nat := independentZones c x (s.record x).witnesses

/-- The standing that an evaluation gives a record as it stands. -/
def judgement (c : ConfigRecord) (s : State) (x : Nat) : Standing := newStanding c (s.record x).standing (s.record x).score (zonesOf c s x)

/-- Whether an evaluation newly condemns the own record. -/
def condemnsOwn (c : ConfigRecord) (s : State) (x : Nat) : Bool :=
  decide (x = s.ownSlot ∧ (s.record x).standing ≠ .condemned ∧ judgement c s x = .condemned)

/-- The notices of one evaluation: a changed standing, and those of the own trigger (R57, R87). -/
def verdictNotices (c : ConfigRecord) (s : State) (x : Nat) : List Notice :=
  (if judgement c s x = (s.record x).standing then []
   else [{ body := .standing x (s.record x).standing (judgement c s x) .evidence, epoch := s.ctl.epoch, overrun := false }]) ++
  (if condemnsOwn c s x then follows c s (zonesOf c s x) else [])

/-- An evaluation that gives another standing: one record, its notice, and the own trigger. -/
theorem evaluate_of_judgement (h : s.eng.records.length = 24) {x : Nat} (hx : isSlot x = true)
    (changed : judgement c s x ≠ (s.record x).standing) :
    ∃ r, s.evaluate c x =
      let t := (s.setRecord x r).post (.standing x (s.record x).standing (judgement c s x) .evidence)
      if condemnsOwn c s x then t.takeTrigger c .evidence (zonesOf c s x) else t := by
  refine ⟨_, (evaluate_of_changes h hx rfl (Ne.symm changed)).trans (if_congr ?_ rfl rfl)⟩
  have own : condemnsOwn c s x = true ↔ x = s.ownSlot ∧ (s.record x).standing ≠ .condemned ∧ judgement c s x = .condemned :=
    decide_eq_true_iff
  rw [own]
  exact ⟨fun ⟨at_, condemned⟩ => ⟨at_, fun old => changed (condemned.trans old.symm), condemned⟩,
    fun ⟨at_, _, condemned⟩ => ⟨at_, condemned⟩⟩

/-- An evaluation that keeps the standing is not the own condemnation. -/
theorem condemnsOwn_of_same {x : Nat} (same : judgement c s x = (s.record x).standing) : condemnsOwn c s x = false :=
  decide_eq_false fun ⟨_, old, condemned⟩ => old (same.symm.trans condemned)

/-- The state with the own trigger taken, where the evaluation newly condemns the own record. -/
def ownVerdict (c : ConfigRecord) (s : State) (x : Nat) : State :=
  if condemnsOwn c s x then s.takeTrigger c .evidence (zonesOf c s x) else s

theorem ownVerdict_congr {x : Nat} (ctl : t.ctl = s.ctl) (xmt : t.xmt = s.xmt) (condemns : condemnsOwn c t x = condemnsOwn c s x)
    (zones : zonesOf c t x = zonesOf c s x) :
    (ownVerdict c t x).ctl = (ownVerdict c s x).ctl ∧ (ownVerdict c t x).xmt = (ownVerdict c s x).xmt := by
  unfold ownVerdict
  rw [condemns, zones]
  split
  · exact takeTrigger_congr ctl xmt _ _
  · exact ⟨ctl, xmt⟩

/-- An evaluation moves the controller and the buffer only by the own trigger. -/
theorem evaluate_ctl_xmt (h : s.eng.records.length = 24) {x : Nat} (hx : isSlot x = true) :
    (s.evaluate c x).ctl = (ownVerdict c s x).ctl ∧ (s.evaluate c x).xmt = (ownVerdict c s x).xmt := by
  unfold ownVerdict
  by_cases same : judgement c s x = (s.record x).standing
  · rw [evaluate_of_stays h hx same, condemnsOwn_of_same same]
    exact ⟨rfl, rfl⟩
  · obtain ⟨r, after⟩ := evaluate_of_judgement h hx same
    rw [after]
    dsimp only
    split
    · exact takeTrigger_congr (s := s) (State.post_ctl (s.setRecord x r) _) (State.post_xmt (s.setRecord x r) _) _ _
    · exact ⟨State.post_ctl _ _, State.post_xmt _ _⟩

/-- With room in the queue an evaluation appends its notices, and nothing else of the link moves. -/
theorem evaluate_lnk (h : s.eng.records.length = 24) {x : Nat} (hx : isSlot x = true)
    (room : s.lnk.notices.length + (verdictNotices c s x).length ≤ 32) :
    (s.evaluate c x).lnk = { s.lnk with notices := s.lnk.notices ++ verdictNotices c s x } := by
  unfold verdictNotices at room ⊢
  by_cases same : judgement c s x = (s.record x).standing
  · rw [evaluate_of_stays h hx same, condemnsOwn_of_same same, if_pos same]
    simp
  · obtain ⟨r, after⟩ := evaluate_of_judgement h hx same
    rw [if_neg same, List.length_append, List.length_singleton] at room
    rw [after, if_neg same, post_of_room (s := s.setRecord x r) _ (show s.lnk.notices.length < 32 by omega)]
    dsimp only
    split
    · rename_i own
      rw [if_pos own] at room
      refine (takeTrigger_lnk (by simpa [follows, Nat.add_assoc] using room)).trans ?_
      simp [follows]
    · simp

/-! ### The evaluations in slot order -/

/-- An evaluation of one slot leaves what another slot's goes by. -/
theorem evaluate_other (h : s.eng.records.length = 24) {x y : Nat} (hx : isSlot x = true) (hy : isSlot y = true) (other : y ≠ x) :
    zonesOf c (s.evaluate c x) y = zonesOf c s y ∧ condemnsOwn c (s.evaluate c x) y = condemnsOwn c s y ∧
      verdictNotices c (s.evaluate c x) y = verdictNotices c s y := by
  have record := evaluate_record_other c x y s hx hy other
  have ctl := (evaluate_frame c x s).ctl
  have own : (s.evaluate c x).ownSlot = s.ownSlot := by rw [State.ownSlot, ctl]; rfl
  have epoch : (s.evaluate c x).ctl.epoch = s.ctl.epoch := by rw [ctl]
  have zones : zonesOf c (s.evaluate c x) y = zonesOf c s y := by unfold zonesOf; rw [record]
  have judged : judgement c (s.evaluate c x) y = judgement c s y := by unfold judgement; rw [record, zones]
  have condemns : condemnsOwn c (s.evaluate c x) y = condemnsOwn c s y := by unfold condemnsOwn; rw [record, own, judged]
  refine ⟨zones, condemns, ?_⟩
  unfold verdictNotices
  rw [record, judged, condemns, epoch, zones]
  refine congrArg _ (ite_congr rfl (fun now => ?_) fun _ => rfl)
  have at_own : y = s.ownSlot := (decide_eq_true_iff.1 now).1
  have untriggered : condemnsOwn c s x = false := decide_eq_false fun at_ => other (at_own.trans at_.1.symm)
  have same : (s.evaluate c x).ctl = s.ctl := (evaluate_ctl_xmt h hx).1.trans (by rw [ownVerdict, untriggered]; rfl)
  unfold follows
  rw [same]

/-- The evaluations of some slots, in order: only the own condemnation moves the controller and the buffer. -/
theorem foldl_evaluate_ctl_xmt (l : List Nat) (s : State) (h : s.eng.records.length = 24) (once : l.Nodup)
    (slots : ∀ x ∈ l, isSlot x = true) :
    (l.foldl (fun t x => t.evaluate c x) s).ctl = (if s.ownSlot ∈ l then ownVerdict c s s.ownSlot else s).ctl ∧
      (l.foldl (fun t x => t.evaluate c x) s).xmt = (if s.ownSlot ∈ l then ownVerdict c s s.ownSlot else s).xmt := by
  induction l generalizing s with
  | nil => simp
  | cons x rest ih =>
    obtain ⟨fresh, once⟩ := List.nodup_cons.1 once
    have hx : isSlot x = true := slots x (by simp)
    have later := ih (s.evaluate c x) (by rw [evaluate_length, h]) once fun y hy => slots y (by simp [hy])
    have own : (s.evaluate c x).ownSlot = s.ownSlot := by rw [State.ownSlot, (evaluate_frame c x s).ctl]; rfl
    rw [own] at later
    obtain ⟨ctl, xmt⟩ := evaluate_ctl_xmt (c := c) h hx
    rw [List.foldl_cons]
    by_cases here : s.ownSlot = x
    · rw [here, if_neg fresh] at later
      rw [here, if_pos (by simp)]
      exact ⟨later.1.trans ctl, later.2.trans xmt⟩
    · have untriggered : condemnsOwn c s x = false := decide_eq_false fun at_ => here at_.1.symm
      rw [ownVerdict, untriggered] at ctl xmt
      by_cases there : s.ownSlot ∈ rest
      · obtain ⟨zones, condemns, _⟩ := evaluate_other (c := c) h hx (slots _ (by simp [there])) here
        obtain ⟨same, buffer⟩ := ownVerdict_congr ctl xmt condemns zones
        rw [if_pos there] at later
        rw [if_pos (by simp [there])]
        exact ⟨later.1.trans same, later.2.trans buffer⟩
      · rw [if_neg there] at later
        rw [if_neg (by simp [here, there])]
        exact ⟨later.1.trans ctl, later.2.trans xmt⟩

/-- The evaluations of some slots post their notices in order. -/
theorem foldl_evaluate_lnk (l : List Nat) (s : State) (h : s.eng.records.length = 24) (once : l.Nodup)
    (slots : ∀ x ∈ l, isSlot x = true) (room : s.lnk.notices.length + (l.flatMap (verdictNotices c s)).length ≤ 32) :
    (l.foldl (fun t x => t.evaluate c x) s).lnk =
      { s.lnk with notices := s.lnk.notices ++ l.flatMap (verdictNotices c s) } := by
  induction l generalizing s with
  | nil => simp
  | cons x rest ih =>
    obtain ⟨fresh, once⟩ := List.nodup_cons.1 once
    have hx : isSlot x = true := slots x (by simp)
    have later : rest.flatMap (verdictNotices c (s.evaluate c x)) = rest.flatMap (verdictNotices c s) :=
      List.flatMap_congr fun y hy => (evaluate_other h hx (slots y (by simp [hy])) fun same => fresh (same ▸ hy)).2.2
    rw [List.flatMap_cons, List.length_append] at room
    have posted := evaluate_lnk (c := c) h hx (by omega)
    rw [List.foldl_cons, ih _ (by rw [evaluate_length, h]) once (fun y hy => slots y (by simp [hy]))
      (by rw [later, posted, List.length_append]; omega), later, posted, List.flatMap_cons]
    simp

theorem evaluateAll_ctl_xmt (h : s.eng.records.length = 24) :
    (s.evaluateAll c).ctl = (if isSlot s.ownSlot then ownVerdict c s s.ownSlot else s).ctl ∧
      (s.evaluateAll c).xmt = (if isSlot s.ownSlot then ownVerdict c s s.ownSlot else s).xmt := by
  have folded := foldl_evaluate_ctl_xmt (c := c) slots s h slots_nodup fun x => (mem_slots x).1
  simp only [mem_slots] at folded
  unfold State.evaluateAll
  exact folded

theorem evaluateAll_lnk (h : s.eng.records.length = 24) (room : s.lnk.notices.length + (slots.flatMap (verdictNotices c s)).length ≤ 32) :
    (s.evaluateAll c).lnk = { s.lnk with notices := s.lnk.notices ++ slots.flatMap (verdictNotices c s) } := by
  unfold State.evaluateAll
  exact foldl_evaluate_lnk slots s h slots_nodup (fun x => (mem_slots x).1) room

theorem evaluateAll_accusations (c : ConfigRecord) (s : State) : (s.evaluateAll c).eng.accusations = s.eng.accusations := by
  unfold State.evaluateAll
  induction slots generalizing s with
  | nil => rfl
  | cons x rest ih => rw [List.foldl_cons, ih, evaluate_accusations]

/-! ### The steps before the evaluation -/

/-- ⌊S · (1 − 2^−d)⌋ is what decay leaves (R46). -/
theorem decayed_eq (d score : Nat) : decayed d score = score * (2 ^ d - 1) / 2 ^ d := by
  have pos : 0 < 2 ^ d := Nat.two_pow_pos d
  unfold decayed
  generalize 2 ^ d = m at pos ⊢
  cases score with
  | zero => simp
  | succ n =>
    have ceiling : (n + 1 + m - 1) / m = n / m + 1 := by
      rw [show n + 1 + m - 1 = n + m by omega, Nat.add_div_right _ pos]
    have below : n < m * (n + 1) := Nat.lt_of_lt_of_le (Nat.lt_succ_self n) (Nat.le_mul_of_pos_left _ pos)
    rw [ceiling, ← Nat.mul_sub_div n m (n + 1) below, Nat.mul_sub_one, Nat.mul_comm]

/-- The state after decay and witness expiry, as far as they are still to do (R46, R44). -/
def agedState (c : ConfigRecord) (s : State) : State :=
  let marked := s.setEvidenceDue 0
  let decayed := if s.due.evidence ≤ 1 then marked.decayScores c else marked
  if s.due.evidence ≤ 2 then decayed.expireWitnesses c else decayed

theorem agedState_frame (c : ConfigRecord) (h : s.eng.records.length = 24) :
    agedState c s = { s with due := { s.due with evidence := 0 }, eng := { s.eng with records := (agedState c s).eng.records } } ∧
      (agedState c s).eng.records.length = 24 := by
  unfold agedState
  dsimp only
  split <;> split <;> simp [State.decayScores, State.expireWitnesses, State.mapRecords, State.setEvidenceDue, h]

theorem agedState_record (c : ConfigRecord) (h : s.eng.records.length = 24) (begun : 1 ≤ s.due.evidence) {x : Nat} (hx : isSlot x = true) :
    (agedState c s).record x = { s.record x with
      score := if s.due.evidence = 1 then (s.record x).score * (2 ^ c.decay - 1) / 2 ^ c.decay else (s.record x).score
      witnesses := if s.due.evidence ≤ 2 then
          (s.record x).witnesses.filter fun w => decide ((s.ctl.epoch - w.epoch).toNat < c.expiry)
        else (s.record x).witnesses } := by
  have decays : ((s.setEvidenceDue 0).decayScores c).record x =
      { s.record x with score := (s.record x).score * (2 ^ c.decay - 1) / 2 ^ c.decay } := by
    rw [← decayed_eq]
    exact mapRecords_record (s.setEvidenceDue 0) _ h x hx
  have expires (t : State) (epoch : t.ctl.epoch = s.ctl.epoch) (ht : t.eng.records.length = 24) : (t.expireWitnesses c).record x =
      { t.record x with
        witnesses := (t.record x).witnesses.filter fun w => decide ((s.ctl.epoch - w.epoch).toNat < c.expiry) } := by
    rw [State.expireWitnesses, mapRecords_record _ _ ht x hx, epoch]
    have kept : (fun w => !witnessExpired c s.ctl.epoch w) = fun w => decide ((s.ctl.epoch - w.epoch).toNat < c.expiry) :=
      funext fun w => by rw [witnessExpired, ← decide_not]; exact decide_eq_decide.2 not_le
    rw [kept]
  unfold agedState
  dsimp only
  by_cases first : s.due.evidence = 1
  · have second : s.due.evidence ≤ 2 := by omega
    rw [if_pos second, if_pos first.le, if_pos first, if_pos second,
      expires ((s.setEvidenceDue 0).decayScores c) rfl (by simpa [State.decayScores] using h), decays]
  · have later : ¬ s.due.evidence ≤ 1 := by omega
    rw [if_neg later, if_neg first]
    by_cases second : s.due.evidence ≤ 2
    · rw [if_pos second, if_pos second, expires (s.setEvidenceDue 0) rfl h]; rfl
    · rw [if_neg second, if_neg second]; rfl

theorem applyDue_frame_eng (c : ConfigRecord) (s : State) :
    s.applyDue c = { s with eng := { records := (s.applyDue c).eng.records,
                                     accusations := s.eng.accusations.filter fun e => !isDue s.ctl.epoch e } } := by
  have item (t : State) (e : Accusation) : t.applyEntry c e =
      { t with eng := { t.eng with records := (t.applyEntry c e).eng.records } } := by
    unfold State.applyEntry State.applyItem
    split <;> rfl
  have fold (l : List Accusation) (t : State) : l.foldl (fun t e => t.applyEntry c e) t =
      { t with eng := { t.eng with records := (l.foldl (fun t e => t.applyEntry c e) t).eng.records } } := by
    induction l generalizing t with
    | nil => rfl
    | cons e rest ih => rw [List.foldl_cons, ih, item]
  unfold State.applyDue
  dsimp only
  rw [fold]
  rfl

theorem applyDue_length (c : ConfigRecord) (s : State) : (s.applyDue c).eng.records.length = s.eng.records.length := by
  have fold (l : List Accusation) (t : State) :
      (l.foldl (fun t e => t.applyEntry c e) t).eng.records.length = t.eng.records.length := by
    induction l generalizing t with
    | nil => rfl
    | cons e rest ih => rw [List.foldl_cons, ih, State.applyEntry, applyItem_length]
  exact fold ..

/-- A record after every due entry against it has been applied in order (R32). -/
def dueRecord (c : ConfigRecord) (now : Half) (l : List Accusation) (x : Nat) (r : BoardRecord) : BoardRecord :=
  (l.filter fun e => decide (e.stamp + 2 = now ∧ e.accused = x)).foldl
    (fun v e => appliedRecord c now e.accuser x (evidenceOf e.kind) e.count v) r

theorem dueRecord_held (c : ConfigRecord) (now : Half) (l : List Accusation) (x : Nat) (r : BoardRecord) :
    (dueRecord c now l x r).standing = r.standing ∧ (dueRecord c now l x r).probation = r.probation := by
  unfold dueRecord
  generalize l.filter _ = held
  induction held generalizing r with
  | nil => exact ⟨rfl, rfl⟩
  | cons e rest ih => exact ih _

theorem applyDue_record (c : ConfigRecord) (h : s.eng.records.length = 24) (marked : s.due.evidence ≠ 1)
    (slots : ∀ e ∈ s.eng.accusations, isSlot e.accuser = true ∧ isSlot e.accused = true) {x : Nat} (hx : isSlot x = true) :
    (s.applyDue c).record x = dueRecord c s.ctl.epoch s.eng.accusations x (s.record x) := by
  have folded := applyDue_fold_record c x hx (s.eng.accusations.filter (isDue s.ctl.epoch)) s h
    fun e he => slots e (List.mem_of_mem_filter he)
  rw [show s.evidenceEpoch = s.ctl.epoch from if_neg marked, List.filter_filter] at folded
  unfold dueRecord
  have same : (fun e : Accusation => decide (e.accused = x) && isDue s.ctl.epoch e) =
      fun e => decide (e.stamp + 2 = s.ctl.epoch ∧ e.accused = x) :=
    funext fun e => by rw [isDue, Bool.and_comm, Bool.decide_and]
  rw [← same]
  exact folded

/-- The state before the evaluation: decay, witness expiry and due entries, as far as they are still to do (R47). -/
def unjudged (c : ConfigRecord) (s : State) : State :=
  if s.due.evidence ≤ 3 then (agedState c s).applyDue c else agedState c s

theorem evidenceUpTo_six (h : s.due.evidence ≤ 5) : s.evidenceUpTo c 6 =
    (if s.due.evidence ≤ 4 then (unjudged c s).evaluateAll c else unjudged c s).lowerProbations := by
  unfold State.evidenceUpTo unjudged agedState
  dsimp only
  simp only [h, Nat.le_refl, Nat.reduceLT, and_true, if_true]

/-- The steps before the evaluation leave the station, the buffer and the link alone. -/
theorem unjudged_frame (c : ConfigRecord) (h : s.eng.records.length = 24) :
    (unjudged c s).ctl = s.ctl ∧ (unjudged c s).xmt = s.xmt ∧ (unjudged c s).lnk = s.lnk ∧ (unjudged c s).eng.records.length = 24 ∧
      (unjudged c s).eng.accusations =
        if s.due.evidence ≤ 3 then s.eng.accusations.filter fun e => decide (e.stamp + 2 ≠ s.ctl.epoch) else s.eng.accusations := by
  obtain ⟨frame, length⟩ := agedState_frame c h
  have undue : (fun e => !isDue s.ctl.epoch e) = fun e => decide (e.stamp + 2 ≠ s.ctl.epoch) :=
    funext fun e => by rw [isDue, ← decide_not]
  unfold unjudged
  by_cases early : s.due.evidence ≤ 3
  · rw [if_pos early, if_pos early, applyDue_length, applyDue_frame_eng, frame, ← undue]
    exact ⟨rfl, rfl, rfl, length, rfl⟩
  · rw [if_neg early, if_neg early]
    refine ⟨?_, ?_, ?_, length, ?_⟩ <;> rw [frame]

theorem unjudged_record (c : ConfigRecord) (h : s.eng.records.length = 24)
    (slots : ∀ e ∈ s.eng.accusations, isSlot e.accuser = true ∧ isSlot e.accused = true) {x : Nat} (hx : isSlot x = true) :
    (unjudged c s).record x =
      if s.due.evidence ≤ 3 then dueRecord c s.ctl.epoch s.eng.accusations x ((agedState c s).record x)
      else (agedState c s).record x := by
  obtain ⟨frame, length⟩ := agedState_frame c h
  have due : (agedState c s).due.evidence = 0 := by rw [frame]
  have ctl : (agedState c s).ctl = s.ctl := by rw [frame]
  have held : (agedState c s).eng.accusations = s.eng.accusations := by rw [frame]
  unfold unjudged
  split
  · rw [applyDue_record c length (by omega) (by rw [held]; exact slots) hx, ctl, held]
  · rfl

theorem unjudged_held (c : ConfigRecord) (h : s.eng.records.length = 24) (begun : 1 ≤ s.due.evidence)
    (slots : ∀ e ∈ s.eng.accusations, isSlot e.accuser = true ∧ isSlot e.accused = true) {x : Nat} (hx : isSlot x = true) :
    ((unjudged c s).record x).standing = (s.record x).standing ∧ ((unjudged c s).record x).probation = (s.record x).probation := by
  rw [unjudged_record c h slots hx, agedState_record c h begun hx]
  split
  · exact dueRecord_held ..
  · exact ⟨rfl, rfl⟩

/-! ### The whole work -/

/-- Each record after the whole work. -/
theorem evidenceUpTo_six_record (c : ConfigRecord) (h : s.eng.records.length = 24) (begun : 1 ≤ s.due.evidence)
    (within : s.due.evidence ≤ 5) (slots : ∀ e ∈ s.eng.accusations, isSlot e.accuser = true ∧ isSlot e.accused = true) {x : Nat}
    (hx : isSlot x = true) : (s.evidenceUpTo c 6).record x =
    { (if s.due.evidence ≤ 4 then evaluatedRecord c x ((unjudged c s).record x) else (unjudged c s).record x) with
      probation := (s.record x).probation - 1 } := by
  obtain ⟨_, _, _, length, _⟩ := unjudged_frame c h
  have held := (unjudged_held c h begun slots hx).2
  rw [evidenceUpTo_six within]
  split
  · rw [State.lowerProbations, mapRecords_record _ _ (by rw [evaluateAll_length, length]) x hx,
      evaluateAll_record c _ length x hx, ← held]
    rfl
  · rw [State.lowerProbations, mapRecords_record _ _ length x hx, held]

theorem evidenceUpTo_six_accusations (c : ConfigRecord) (h : s.eng.records.length = 24) (within : s.due.evidence ≤ 5) :
    (s.evidenceUpTo c 6).eng.accusations =
      if s.due.evidence ≤ 3 then s.eng.accusations.filter fun e => decide (e.stamp + 2 ≠ s.ctl.epoch) else s.eng.accusations := by
  obtain ⟨_, _, _, _, accusations⟩ := unjudged_frame c h
  rw [evidenceUpTo_six within, ← accusations, State.lowerProbations, State.mapRecords_eng]
  split
  · rw [evaluateAll_accusations]
  · rfl

theorem evidenceUpTo_six_standing (c : ConfigRecord) (h : s.eng.records.length = 24) (begun : 1 ≤ s.due.evidence)
    (within : s.due.evidence ≤ 5) (slots : ∀ e ∈ s.eng.accusations, isSlot e.accuser = true ∧ isSlot e.accused = true) {x : Nat}
    (hx : isSlot x = true) :
    ((s.evidenceUpTo c 6).record x).standing = (if s.due.evidence ≤ 4 then judgement c (unjudged c s) x else (s.record x).standing) ∧
      independentZones c x ((s.evidenceUpTo c 6).record x).witnesses = zonesOf c (unjudged c s) x := by
  rw [evidenceUpTo_six_record c h begun within slots hx]
  split
  · exact ⟨rfl, rfl⟩
  · exact ⟨(unjudged_held c h begun slots hx).1, rfl⟩

/-- The own record is newly CONDEMNED by the work exactly where its evaluation condemns it. -/
theorem newlyCondemned_iff (c : ConfigRecord) (h : s.eng.records.length = 24) (begun : 1 ≤ s.due.evidence)
    (within : s.due.evidence ≤ 5) (slots : ∀ e ∈ s.eng.accusations, isSlot e.accuser = true ∧ isSlot e.accused = true) :
    (isSlot s.ownSlot = true ∧ (s.record s.ownSlot).standing ≠ .condemned ∧
      ((s.evidenceUpTo c 6).record s.ownSlot).standing = .condemned) ↔
    s.due.evidence ≤ 4 ∧ isSlot s.ownSlot = true ∧ condemnsOwn c (unjudged c s) s.ownSlot = true := by
  have own : (unjudged c s).ownSlot = s.ownSlot := by rw [State.ownSlot, (unjudged_frame c h).1]; rfl
  by_cases hx : isSlot s.ownSlot = true
  · rw [(evidenceUpTo_six_standing c h begun within slots hx).1, condemnsOwn, decide_eq_true_iff, own,
      (unjudged_held c h begun slots hx).1]
    split <;> simp_all
  · simp [hx]

/-- The whole work leaves the controller, the buffer and the link as the evaluations do. -/
theorem evidenceUpTo_six_outside (c : ConfigRecord) (within : s.due.evidence ≤ 5) :
    let after := if s.due.evidence ≤ 4 then (unjudged c s).evaluateAll c else unjudged c s
    (s.evidenceUpTo c 6).ctl = after.ctl ∧ (s.evidenceUpTo c 6).xmt = after.xmt ∧ (s.evidenceUpTo c 6).lnk = after.lnk := by
  rw [evidenceUpTo_six within]
  exact ⟨rfl, rfl, rfl⟩

/-- The notices that the trigger posts into an empty queue. -/
theorem takeTrigger_lnk_of_empty (c : ConfigRecord) (s : State) (z : Nat) :
    (State.takeTrigger c .evidence z { s with lnk := { s.lnk with notices := [] } }).lnk.notices = follows c s z := by
  have room := follows_length_le c { s with lnk := { s.lnk with notices := [] } } z
  rw [takeTrigger_lnk (s := { s with lnk := { s.lnk with notices := [] } }) (le_trans (by simpa using room) (by decide : 1 ≤ 32))]
  rfl

/-- The notices of each record's evaluation, by the records before and after the whole work. -/
theorem verdictNotices_unjudged (c : ConfigRecord) (h : s.eng.records.length = 24) (begun : 1 ≤ s.due.evidence)
    (within : s.due.evidence ≤ 5) (early : s.due.evidence ≤ 4)
    (slots : ∀ e ∈ s.eng.accusations, isSlot e.accuser = true ∧ isSlot e.accused = true) {x : Nat} (hx : isSlot x = true) :
    verdictNotices c (unjudged c s) x =
      (if ((s.evidenceUpTo c 6).record x).standing = (s.record x).standing then []
       else [{ body := .standing x (s.record x).standing ((s.evidenceUpTo c 6).record x).standing .evidence,
               epoch := s.ctl.epoch, overrun := false }]) ++
      (if (isSlot s.ownSlot = true ∧ (s.record s.ownSlot).standing ≠ .condemned ∧
            ((s.evidenceUpTo c 6).record s.ownSlot).standing = .condemned) ∧ x = s.ownSlot then
        (State.takeTrigger c .evidence (independentZones c s.ownSlot ((s.evidenceUpTo c 6).record s.ownSlot).witnesses)
          { s with lnk := { s.lnk with notices := [] } }).lnk.notices
       else []) := by
  have ctl := (unjudged_frame c h).1
  have own : (unjudged c s).ownSlot = s.ownSlot := by rw [State.ownSlot, ctl]; rfl
  obtain ⟨standing, zones⟩ := evidenceUpTo_six_standing c h begun within slots hx
  rw [if_pos early] at standing
  rw [verdictNotices, standing, (unjudged_held c h begun slots hx).1, ctl]
  refine congrArg _ (ite_congr (propext ?_) (fun now => ?_) fun _ => rfl)
  · rw [newlyCondemned_iff c h begun within slots]
    refine ⟨fun now => ?_, fun ⟨⟨_, _, now⟩, at_⟩ => at_ ▸ now⟩
    have at_ : x = s.ownSlot := (decide_eq_true_iff.1 now).1.trans own
    exact ⟨⟨early, at_ ▸ hx, at_ ▸ now⟩, at_⟩
  · have at_ : x = s.ownSlot := now.2
    rw [takeTrigger_lnk_of_empty, ← at_, zones]
    unfold follows
    rw [ctl]

/-- Settles O25: the records before the evaluation, one evaluation of each, and what the own condemnation adds. -/
theorem evidenceBoundaryWorkIsDone : Obligations.EvidenceBoundaryWorkIsDone := by
  unfold Obligations.EvidenceBoundaryWorkIsDone
  intro s c hc ages receiver run tables slotsHeld next
  have step : exec .evidenceBoundaryWork s = .next (s.evidenceWork c) := by
    simp only [exec, execEvidenceBoundaryWork, finished_for_evidence ages receiver run, hc]
  refine ⟨fun none => step.trans (congrArg Host.Outcome.next (if_neg (by omega))), fun begun within => ?_⟩
  have frame := evidenceUpTo_frame c 6 s
  obtain ⟨ctl, xmt, lnk, length, _⟩ := unjudged_frame c tables.1
  have recordOf {x : Nat} (hx : isSlot x = true) := evidenceUpTo_six_record c tables.1 begun within slotsHeld hx
  refine ⟨s.evidenceUpTo c 6, step.trans (congrArg Host.Outcome.next (if_pos begun)), frame.due, frame.trk, frame.rcv, frame.choices,
    evidenceUpTo_six_accusations c tables.1 within, fun x low high => ?_, ?_⟩
  · have hx : isSlot x = true := (isSlot_iff x).2 ⟨low, high⟩
    have before := (unjudged_record c tables.1 slotsHeld hx).trans
      (congrArg (fun r => if s.due.evidence ≤ 3 then dueRecord c s.ctl.epoch s.eng.accusations x r else r)
        (agedState_record c tables.1 begun hx))
    refine (recordOf hx).trans ?_
    rw [before]
    unfold evaluatedRecord shortOfQuorum
    simp only [← Bool.decide_and]
    rfl
  · intro condemned triggered
    have condemned_iff : condemned ↔ _ := newlyCondemned_iff c tables.1 begun within slotsHeld
    obtain ⟨outCtl, outXmt, outLnk⟩ := evidenceUpTo_six_outside c within
    have own : (unjudged c s).ownSlot = s.ownSlot := by rw [State.ownSlot, ctl]; rfl
    by_cases early : s.due.evidence ≤ 4
    · rw [if_pos early] at outCtl outXmt outLnk
      obtain ⟨ctlAfter, xmtAfter⟩ := evaluateAll_ctl_xmt (c := c) length
      rw [own] at ctlAfter xmtAfter
      refine ⟨fun calm => ?_, fun now => ?_, fun room => ?_⟩
      · have quiet : (if isSlot s.ownSlot = true then ownVerdict c (unjudged c s) s.ownSlot else unjudged c s) = unjudged c s :=
          ite_eq_right_iff.2 fun hx => if_neg fun own => calm (condemned_iff.2 ⟨early, hx, own⟩)
        rw [quiet] at ctlAfter xmtAfter
        exact ⟨(outCtl.trans ctlAfter).trans ctl, (outXmt.trans xmtAfter).trans xmt⟩
      · obtain ⟨_, hx, condemns⟩ := condemned_iff.1 now
        rw [if_pos hx, ownVerdict, if_pos condemns,
          ← (evidenceUpTo_six_standing c tables.1 begun within slotsHeld hx).2] at ctlAfter xmtAfter
        obtain ⟨sameCtl, sameXmt⟩ := takeTrigger_congr (c := c) ctl xmt .evidence
          (independentZones c s.ownSlot ((s.evidenceUpTo c 6).record s.ownSlot).witnesses)
        exact ⟨(outCtl.trans ctlAfter).trans sameCtl, (outXmt.trans xmtAfter).trans sameXmt⟩
      · have each : ∀ x ∈ slots, _ = verdictNotices c (unjudged c s) x :=
          fun x hx => (verdictNotices_unjudged c tables.1 begun within early slotsHeld ((mem_slots x).1 hx)).symm
        have posted := List.flatMap_congr each
        refine outLnk.trans ((evaluateAll_lnk length ?_).trans ?_)
        · rw [lnk, ← posted]; exact room
        · rw [lnk, ← posted]
          rfl
    · rw [if_neg early] at outCtl outXmt outLnk
      have calm : ¬ condemned := fun now => early (condemned_iff.1 now).1
      refine ⟨fun _ => ⟨outCtl.trans ctl, outXmt.trans xmt⟩, fun now => absurd now calm, fun _ => outLnk.trans (lnk.trans ?_)⟩
      refine Eq.trans (by rw [List.append_nil]) (congrArg (fun l => { s.lnk with notices := s.lnk.notices ++ l })
        (List.flatMap_eq_nil_iff.2 fun x hx => List.append_eq_nil_iff.2 ⟨if_pos ?_, if_neg fun now => calm now.1⟩)).symm
      exact (evidenceUpTo_six_standing c tables.1 begun within slotsHeld ((mem_slots x).1 hx)).1.trans (if_neg early)

end Sys2Proof.Machine
end
